-- ==== Sys2Proof/Word.lean ====
section
/-! DEFINITION. The word types: a byte, and the 32-byte data field of a request or a result. -/

namespace Sys2Proof

/-- A byte: what travels on the SPI bus (R62: a model of the block works at byte level). -/
abbrev Byte := BitVec 8

/-- The 32-byte `data` field of a request (R85) and of the result record (R28). -/
abbrev Payload := Vector Byte 32

end Sys2Proof
end

