-- ==== Sys2Proof/Syntax.lean ====
section
/-! DEFINITION. The syntax: the Configuration record, the request record, what is offered to the block, and `Instr`, one
constructor per row of spec/opcode_table.json. -/

namespace Sys2Proof

/-- One pipe of a Configuration (R88). `addr[0]` is the least-significant byte (R61). -/
structure Pipe where
  enabled : Bool
  autoAck : Bool
  addrLen : BitVec 3
  addr    : Vector Byte 5
  deriving DecidableEq, Repr, Inhabited

/-- The Configuration record, APPLY's operand (R88, R120), with the widths and codes of R88. -/
structure Configuration where
  channel   : BitVec 7
  dataRate  : BitVec 2
  crc       : BitVec 2
  aw        : BitVec 3
  pipes     : Vector Pipe 6
  pmDynamic : Bool
  pmStaticN : BitVec 6
  deriving DecidableEq, Repr, Inhabited

/-- The host request record `req` (R85). -/
structure Request where
  op     : BitVec 4
  target : BitVec 2
  noAck  : Bool
  addr   : BitVec 5
  value  : Byte
  opcode : Byte
  len    : BitVec 6
  cap    : BitVec 6
  data   : Payload
  cfg    : Configuration
  deriving DecidableEq, Repr, Inhabited

/-- What stands at the block's input. A `request` is a host request as R87 packs it: the header word, with `data` and `cfg`
beside it. A `frame` is one SPI transaction of the encoder on its own: a command byte, a count and the data bytes behind it
(R80, R82; DESIGN CHOICE, log 10). -/
inductive Offer where
  | frame (cmd : Byte) (len : BitVec 6) (data : Payload)
  | request (header : BitVec 32) (data : Payload) (cfg : Configuration)
  deriving DecidableEq, Repr, Inhabited

/-- The instructions: first the twelve SPI commands of R82, then the twelve host requests of R86. For a command that reads,
`n` is the number of dummy bytes clocked out behind the command byte (R100, R104). -/
inductive Instr where
  | rRegister (reg : BitVec 5) (n : Nat)
  | wRegister (reg : BitVec 5) (bytes : List Byte)
  | rRxPayload (n : Nat)
  | wTxPayload (bytes : List Byte)
  | wTxPayloadNoack (bytes : List Byte)
  | flushTxCmd
  | flushRxCmd
  | reuseTxPl
  | activate (data0 : Byte)
  | rRxPlWid
  | wAckPayload (pipe : BitVec 3) (bytes : List Byte)
  | nop
  | readRegister (addr : BitVec 5)
  | writeRegister (addr : BitVec 5) (value : Byte)
  | sendCommand (opcode : Byte) (len : BitVec 6) (data : Payload)
  | apply (cfg : Configuration)
  | transitionPowerDown
  | transitionStandby
  | transitionTransmit
  | transitionReceive
  | writeTxPayload (noAck : Bool) (len : BitVec 6) (data : Payload)
  | readRxPayload (cap : BitVec 6)
  | flushTx
  | flushRx
  deriving DecidableEq, Repr, Inhabited

end Sys2Proof
end

