-- ==== Sys2Proof/Machine/Types.lean ====
section
/-! DEFINITION. The types of the block's registers and of its result record, with their codes: modes (R21), payload mode
(R23), CE level (R26), errors (R210–R212), the result record (R28). -/

namespace Sys2Proof.Config

/-! ## The error types, which the model takes as parameters (R13, R14, D44; log 4): uninterpreted numbers that fix them -/

/-- PARAMETER (R13, D44, log 4): how many values `BusError` has that stand alone. -/
opaque busErrorSingles : Nat

/-- PARAMETER (R13, D44, log 4): how many unbounded families of values `BusError` has. -/
opaque busErrorFamilies : Nat

/-- PARAMETER (R14, D44, log 4): how many values `GpioError` has that stand alone. -/
opaque gpioErrorSingles : Nat

/-- PARAMETER (R14, D44, log 4): how many unbounded families of values `GpioError` has. -/
opaque gpioErrorFamilies : Nat

end Sys2Proof.Config

namespace Sys2Proof.Machine

/-- The logical radio mode (R21). -/
inductive Mode where
  | powerDown
  | standby
  | transmit
  | receive
  deriving DecidableEq, Repr, Inhabited

/-- The mode codes of R21. -/
def Mode.code : Mode → BitVec 2
  | .powerDown => 0
  | .standby => 1
  | .transmit => 2
  | .receive => 3

/-- A mode as a one-element mode set: bit 0 is PowerDown, bit 3 is ReceiveMode (R211). -/
def Mode.bit : Mode → BitVec 4
  | .powerDown => 0b0001
  | .standby => 0b0010
  | .transmit => 0b0100
  | .receive => 0b1000

/-- Membership in a mode set of R211. -/
def Mode.isIn (m : Mode) (set : BitVec 4) : Bool := m.bit &&& set != 0

/-- A level driven on the CE pin (R14). -/
inductive Level where
  | low
  | high
  deriving DecidableEq, Repr, Inhabited

/-- What the block believes of the CE pin (R26). -/
inductive CeShadow where
  | low
  | high
  | unknown
  deriving DecidableEq, Repr, Inhabited

/-- The codes of `ce_shadow` (R26). -/
def CeShadow.code : CeShadow → BitVec 2
  | .low => 0
  | .high => 1
  | .unknown => 2

/-- The belief after a level has been driven (R26). -/
def Level.shadow : Level → CeShadow
  | .low => .low
  | .high => .high

/-- The payload size mode (R23). `unset` is the spec's None. -/
inductive PayloadMode where
  | unset
  | static (n : BitVec 6)
  | dynamic
  deriving DecidableEq, Repr, Inhabited

/-- `pm_kind` (R23). -/
def PayloadMode.kind : PayloadMode → BitVec 2
  | .unset => 0
  | .static _ => 1
  | .dynamic => 2

/-- `pm_n` (R23): N when `pm_kind` is 1, 0 otherwise. -/
def PayloadMode.size : PayloadMode → BitVec 6
  | .unset => 0
  | .static n => n
  | .dynamic => 0

/-- The values of a type with one value, `singles` others and `families` sequences of them. As the two numbers vary, this is
every type, up to the names of its values, that has a value and whose values can be listed. -/
abbrev ErrorValue (singles families : Nat) : Type := Option (Fin singles ⊕ Fin families × Nat)

/-- The bus transport's error (R13): an opaque type that the model takes as a parameter (D44), so that what is proved holds
whichever type it is. How the parameter is given is the model's choice (log 4). -/
structure BusError where
  value : ErrorValue Config.busErrorSingles Config.busErrorFamilies
  deriving DecidableEq, Repr, Inhabited

/-- The GPIO output's error (R14), a type parameter as `BusError` is (D44; log 4). -/
structure GpioError where
  value : ErrorValue Config.gpioErrorSingles Config.gpioErrorFamilies
  deriving DecidableEq, Repr, Inhabited

/-- The reasons of `ConfigError` (R212). -/
inductive ConfigReason where
  | channelOutOfRange
  | invalidAddressWidth
  | addressLengthMismatch
  | staticPayloadSizeOutOfRange
  | noPipeEnabled
  | invalidDataRate
  | invalidCrcMode
  | pipeAddressNotRepresentable
  | notConfigured
  deriving DecidableEq, Repr, Inhabited

/-- The reason codes of R212. -/
def ConfigReason.code : ConfigReason → BitVec 4
  | .channelOutOfRange => 1
  | .invalidAddressWidth => 2
  | .addressLengthMismatch => 3
  | .staticPayloadSizeOutOfRange => 4
  | .noPipeEnabled => 5
  | .invalidDataRate => 6
  | .invalidCrcMode => 7
  | .pipeAddressNotRepresentable => 8
  | .notConfigured => 9

/-- The errors a request can end with (R210). -/
inductive ReqError where
  | transport (e : BusError)
  | pin (e : GpioError)
  | invalidTransition (fromMode toMode : Mode)
  | payloadTooLarge (given max : Byte)
  | invalidMode (required : BitVec 4) (actual : Mode)
  | fifoEmpty
  | fifoFull
  | configError (reason : ConfigReason)
  | illegalRequest
  deriving DecidableEq, Repr, Inhabited

/-- The `err` codes of R210. -/
def ReqError.code : ReqError → BitVec 4
  | .transport _ => 1
  | .pin _ => 2
  | .invalidTransition _ _ => 3
  | .payloadTooLarge _ _ => 4
  | .invalidMode _ _ => 5
  | .fifoEmpty => 6
  | .fifoFull => 7
  | .configError _ => 8
  | .illegalRequest => 15

/-- The result record `res` (R28). -/
structure Result where
  err         : BitVec 4
  statusValid : Bool
  status      : Byte
  value       : Byte
  len         : BitVec 6
  data        : Payload
  fromMode    : BitVec 2
  toMode      : BitVec 2
  given       : Byte
  max         : Byte
  required    : BitVec 4
  actual      : BitVec 2
  reason      : BitVec 4
  busErr      : BusError
  pinErr      : GpioError
  deriving DecidableEq, Repr, Inhabited

/-- The result record after an error: `err` and the info fields of R210, every other field as it was (R218). -/
def Result.withError (r : Result) : ReqError → Result
  | .transport e => { r with err := (ReqError.transport e).code, busErr := e }
  | .pin e => { r with err := (ReqError.pin e).code, pinErr := e }
  | .invalidTransition f t =>
    { r with err := (ReqError.invalidTransition f t).code, fromMode := f.code, toMode := t.code }
  | .payloadTooLarge g m => { r with err := (ReqError.payloadTooLarge g m).code, given := g, max := m }
  | .invalidMode q a => { r with err := (ReqError.invalidMode q a).code, required := q, actual := a.code }
  | .fifoEmpty => { r with err := ReqError.fifoEmpty.code }
  | .fifoFull => { r with err := ReqError.fifoFull.code }
  | .configError c => { r with err := (ReqError.configError c).code, reason := c.code }
  | .illegalRequest => { r with err := ReqError.illegalRequest.code }

end Sys2Proof.Machine
end

