-- ==== Sys2Proof/Config.lean ====
section
/-! DEFINITION. What an implementation fixes (the parameters of R10–R12) and the free values, which nothing in the model
can evaluate: the answers of the capabilities when no scripted answer stands (R16), the result fields a request does not
name (R28), how long a wait lasts beyond its bound (R15), whether a call cut by a reset took effect (R240), and what a chip
makes of register values and writes whose effect is a draw (U2, U8, U9, U10). The parameters that fix the two error types stand
beside those types in Machine/Types.lean. -/

namespace Sys2Proof

/-- The chip variants of R12. -/
inductive ChipVariant where
  | nRF24L01
  | nRF24L01P
  deriving DecidableEq, Repr, Inhabited

/-- The parameters of R10, R11 and R12. `State` holds them, so that every statement is about every value of them; no step
writes them (DESIGN CHOICE, log 5). -/
structure Params where
  configReset      : Byte
  rfSetupBase      : Byte
  dummy            : Byte
  featureDynamic   : Byte
  activateRequired : Bool
  chipVariant      : ChipVariant
  tPd2Stby         : Nat
  tCeHigh          : Nat
  deriving DecidableEq, Repr, Inhabited

namespace Config

/-- The defaults of R10, R11 and R12. -/
def defaults : Params where
  configReset := 0x08
  rfSetupBase := 0x06
  dummy := 0xFF
  featureDynamic := 0x05
  activateRequired := true
  chipVariant := .nRF24L01
  tPd2Stby := 1500
  tCeHigh := 10

/-- The bounds R10 puts on the two wait parameters. -/
def boundsOk (p : Params) : Bool := 1500 ≤ p.tPd2Stby && 10 ≤ p.tCeHigh

/-- FREE VALUE (R16, log 2): whether the SPI exchange with draw number `d` fails, and with what error. -/
opaque freeBusError (d : Nat) : Option Machine.BusError

/-- FREE VALUE (R16, log 2): byte `i` of what the SPI exchange with draw number `d` returns. -/
opaque freeRxByte (d i : Nat) : Byte

/-- FREE VALUE (R16, log 2): whether the CE drive with draw number `d` fails, and with what error. -/
opaque freePinError (d : Nat) : Option Machine.GpioError

/-- FREE VALUE (R15, U21, log 17): by how many microseconds the wait with draw number `d` outlasts its argument. -/
opaque freeExcess (d : Nat) : Nat

/-- FREE VALUE (R28, U16, log 6): the result record's fields that the request taken at draw number `d` does not name. -/
opaque freeResult (d : Nat) : Machine.Result

/-- FREE VALUE (R240, U24, log 8): whether the call in flight at the reset with draw number `d` reached the chip. -/
opaque freeReached (d : Nat) : Bool

/-- FREE VALUE (U8, U9, log 31): the data rate in kbps, if any, of a chip whose RF_SETUP holds a value whose rate is a draw:
bit 5 set on the nRF24L01, the code (1,1) on the nRF24L01P; at the draw number `d`. -/
opaque freeDataRate (v : ChipVariant) (d : Nat) (rfSetup : Byte) : Option Nat

/-- FREE VALUE (U10, log 31): the address width in bytes, if any, of a chip whose SETUP_AW holds the illegal code, at the draw
number `d`. -/
opaque freeAddressWidth (d : Nat) (setupAw : Byte) : Option Nat

/-- FREE VALUE (U2, log 32): the byte whose bits 3:0 STATUS holds after a write of `written` over `status`, at the draw number
`d`. -/
opaque freeStatus (d : Nat) (written status : Byte) : Byte

end Config
end Sys2Proof
end

