-- ==== Sys2Proof/WellFormed.lean ====
section
/-! DEFINITION. Which instructions are well formed: the data counts of R82 and the pipe numbers of R81. -/

namespace Sys2Proof

/-- An instruction is well formed when its operands can be written in its encoding. The data counts are those of R82, with
the zero-length payload frames the block itself may send (R184 (c), R189 (b)). A host request is always well formed: R85
and R88 give its fields widths wide enough for every invalid value, which the request then answers with an error. -/
def Instr.wellFormed : Instr → Bool
  | .rRegister _ n => 1 ≤ n && n ≤ 5
  | .wRegister _ bytes => 1 ≤ bytes.length && bytes.length ≤ 5
  | .rRxPayload n => n ≤ 32
  | .wTxPayload bytes => bytes.length ≤ 32
  | .wTxPayloadNoack bytes => bytes.length ≤ 32
  | .flushTxCmd => true
  | .flushRxCmd => true
  | .reuseTxPl => true
  | .activate _ => true
  | .rRxPlWid => true
  | .wAckPayload pipe bytes => pipe ≤ 5 && 1 ≤ bytes.length && bytes.length ≤ 32
  | .nop => true
  | .readRegister _ => true
  | .writeRegister _ _ => true
  | .sendCommand _ _ _ => true
  | .apply _ => true
  | .transitionPowerDown => true
  | .transitionStandby => true
  | .transitionTransmit => true
  | .transitionReceive => true
  | .writeTxPayload _ _ _ => true
  | .readRxPayload _ => true
  | .flushTx => true
  | .flushRx => true

end Sys2Proof
end

