-- ==== Sys2Proof/Decode.lean ====
section
/-! DEFINITION. Encoding: the header word of a host request (R87), the SPI command bytes (R81, R82, R91), the decoder, total
on everything that can be offered and rejecting by name, and after it the encoder. -/

namespace Sys2Proof

/-! ## Byte strings in the 32-byte data field -/

/-- The data field with the bytes of `l` at its front and those of `v` behind them. -/
def Payload.overlay (l : List Byte) (v : Payload) : Payload := Vector.ofFn fun i : Fin 32 => l.getD i.val v[i]

/-- The data field of zeros. -/
def Payload.zero : Payload := Vector.replicate 32 0

/-- The data field that holds `l` and zeros behind it. -/
def Payload.ofList (l : List Byte) : Payload := Payload.overlay l Payload.zero

/-- `data[0 .. n-1]` (R18). -/
def Payload.front (v : Payload) (n : Nat) : List Byte := v.toList.take n

/-- The pipe of zeros. -/
def Pipe.blank : Pipe := { enabled := false, autoAck := false, addrLen := 0, addr := Vector.replicate 5 0 }

/-- The Configuration of zeros. -/
def Configuration.blank : Configuration :=
  { channel := 0, dataRate := 0, crc := 0, aw := 0, pipes := Vector.replicate 6 Pipe.blank, pmDynamic := false, pmStaticN := 0 }

/-- `cfg.pipe[p]` (R88). -/
def Configuration.pipe (cfg : Configuration) (p : Fin 6) : Pipe := cfg.pipes[p]

/-- `addr[0 .. w-1]`, the bytes of a pipe's address for the width `w` (R131). -/
def Pipe.addrBytes (pipe : Pipe) (w : Nat) : List Byte := pipe.addr.toList.take w

/-- The request of zeros. -/
def Request.blank : Request :=
  { op := 0, target := 0, noAck := false, addr := 0, value := 0, opcode := 0, len := 0, cap := 0, data := Payload.zero,
    cfg := Configuration.blank }

/-! ## The header word (R87) -/

/-- The fields of the header word, from bit 31 down (R87); `byte` is `value` or `opcode`, `count` is `len` or `cap`. -/
def headerWord (op : BitVec 4) (target : BitVec 2) (noAck : Bool) (addr : BitVec 5) (byte : Byte) (count : BitVec 6) :
    BitVec 32 :=
  0#2 ++ count ++ byte ++ 0#3 ++ addr ++ 0#1 ++ BitVec.ofBool noAck ++ target ++ op

/-- The request record a header word spells (R87): reserved bits are ignored, and the shared fields are read as both names. -/
def Request.ofHeader (h : BitVec 32) (data : Payload) (cfg : Configuration) : Request where
  op := h.extractLsb' 0 4
  target := h.extractLsb' 4 2
  noAck := h.getLsbD 6
  addr := h.extractLsb' 8 5
  value := h.extractLsb' 16 8
  opcode := h.extractLsb' 16 8
  len := h.extractLsb' 24 6
  cap := h.extractLsb' 24 6
  data := data
  cfg := cfg

/-! ## Command bytes (R81, R82, R91) -/

/-- R_REGISTER's command byte, `0b000AAAAA`. -/
def cmdRRegister (addr : BitVec 5) : Byte := 0x00 ||| addr.setWidth 8
/-- W_REGISTER's command byte, `0b001AAAAA`. -/
def cmdWRegister (addr : BitVec 5) : Byte := 0x20 ||| addr.setWidth 8
/-- R_RX_PAYLOAD. -/
def cmdRRxPayload : Byte := 0x61
/-- W_TX_PAYLOAD. -/
def cmdWTxPayload : Byte := 0xA0
/-- W_TX_PAYLOAD_NOACK. -/
def cmdWTxPayloadNoack : Byte := 0xB0
/-- FLUSH_TX. -/
def cmdFlushTx : Byte := 0xE1
/-- FLUSH_RX. -/
def cmdFlushRx : Byte := 0xE2
/-- REUSE_TX_PL. -/
def cmdReuseTxPl : Byte := 0xE3
/-- ACTIVATE. -/
def cmdActivate : Byte := 0x50
/-- R_RX_PL_WID. -/
def cmdRRxPlWid : Byte := 0x60
/-- W_ACK_PAYLOAD's command byte, `0b10101PPP`. -/
def cmdWAckPayload (pipe : BitVec 3) : Byte := 0xA8 ||| pipe.setWidth 8
/-- NOP. -/
def cmdNop : Byte := 0xFF

/-! ## The decoder -/

/-- Why something offered spells no instruction. -/
inductive Reject where
  /-- A reserved request code 9..15 (R89). -/
  | reservedOp (op : BitVec 4)
  /-- A command byte that matches no row of R82 (R84). -/
  | undefinedCommand (cmd : Byte)
  /-- A command of R82 with a data count its row does not have. -/
  | dataCount (cmd : Byte) (n : Nat)
  deriving DecidableEq, Repr

/-- The instruction, when the data count fits; else the rejection of that count. -/
def whenCount (ok : Bool) (cmd : Byte) (n : Nat) (i : Instr) : Except Reject Instr :=
  if ok then .ok i else .error (.dataCount cmd n)

/-- The SPI command that a command byte and the data bytes behind it spell (R81, R82). The chip decodes the command from
byte 0 and takes the rest as data (R90); how many bytes there are is the framing's. -/
def decodeFrame (cmd : Byte) (bs : List Byte) : Except Reject Instr :=
  let n := bs.length
  if cmd &&& 0xE0 = 0x00 then whenCount (1 ≤ n && n ≤ 5) cmd n (.rRegister (cmd.extractLsb' 0 5) n)
  else if cmd &&& 0xE0 = 0x20 then whenCount (1 ≤ n && n ≤ 5) cmd n (.wRegister (cmd.extractLsb' 0 5) bs)
  else if cmd = cmdRRxPayload then whenCount (n ≤ 32) cmd n (.rRxPayload n)
  else if cmd = cmdWTxPayload then whenCount (n ≤ 32) cmd n (.wTxPayload bs)
  else if cmd = cmdWTxPayloadNoack then whenCount (n ≤ 32) cmd n (.wTxPayloadNoack bs)
  else if cmd = cmdFlushTx then whenCount (n = 0) cmd n .flushTxCmd
  else if cmd = cmdFlushRx then whenCount (n = 0) cmd n .flushRxCmd
  else if cmd = cmdReuseTxPl then whenCount (n = 0) cmd n .reuseTxPl
  else if cmd = cmdActivate then whenCount (n = 1) cmd n (.activate (bs.headD 0))
  else if cmd = cmdRRxPlWid then whenCount (n = 1) cmd n .rRxPlWid
  else if cmd &&& 0xF8 = 0xA8 ∧ cmd.extractLsb' 0 3 ≤ 5 then
    whenCount (1 ≤ n && n ≤ 32) cmd n (.wAckPayload (cmd.extractLsb' 0 3) bs)
  else if cmd = cmdNop then whenCount (n = 0) cmd n .nop
  else .error (.undefinedCommand cmd)

/-- The instruction a request record spells (R86); an instruction reads only the fields its rule names (R85). -/
def decodeRequest (r : Request) : Except Reject Instr :=
  if r.op = 0 then .ok (.readRegister r.addr)
  else if r.op = 1 then .ok (.writeRegister r.addr r.value)
  else if r.op = 2 then .ok (.sendCommand r.opcode r.len r.data)
  else if r.op = 3 then .ok (.apply r.cfg)
  else if r.op = 4 then
    if r.target = 0 then .ok .transitionPowerDown
    else if r.target = 1 then .ok .transitionStandby
    else if r.target = 2 then .ok .transitionTransmit
    else .ok .transitionReceive
  else if r.op = 5 then .ok (.writeTxPayload r.noAck r.len r.data)
  else if r.op = 6 then .ok (.readRxPayload r.cap)
  else if r.op = 7 then .ok .flushTx
  else if r.op = 8 then .ok .flushRx
  else .error (.reservedOp r.op)

/-- The instruction an offer spells. A frame of more than 32 data bytes has no row of R82. -/
def Offer.decode : Offer → Except Reject Instr
  | .frame cmd len data =>
    if len ≤ 32 then decodeFrame cmd (data.front len.toNat) else .error (.dataCount cmd len.toNat)
  | .request h data cfg => decodeRequest (Request.ofHeader h data cfg)

/-- The request record an offer is held as while it runs (R27). For a bare frame it is the SEND_COMMAND request that has
the same transaction sent (R109; log 10). -/
def Offer.record : Offer → Request
  | .frame cmd len data => { Request.blank with op := 2, opcode := cmd, len := len, data := data }
  | .request h data cfg => Request.ofHeader h data cfg

/-- Whether an offer is a bare frame. -/
def Offer.isFrame : Offer → Bool
  | .frame _ _ _ => true
  | .request _ _ _ => false

/-! ## The encoder -/

/-- A frame offer with the bytes `bs` behind the command byte. -/
def frameOffer (cmd : Byte) (bs : List Byte) : Offer := .frame cmd (BitVec.ofNat 6 bs.length) (Payload.ofList bs)

/-- A request offer whose header has the fields given, with zeros beside it. -/
def requestOffer (op : BitVec 4) (target : BitVec 2 := 0) (noAck : Bool := false) (addr : BitVec 5 := 0) (byte : Byte := 0)
    (count : BitVec 6 := 0) (data : Payload := Payload.zero) (cfg : Configuration := Configuration.blank) : Offer :=
  .request (headerWord op target noAck addr byte count) data cfg

/-- The encoder, from the tables of R82, R86 and R87; `dummy` is the byte a read clocks out (R100). -/
def encodeWith (dummy : Byte) : Instr → Offer
  | .rRegister reg n => frameOffer (cmdRRegister reg) (List.replicate n dummy)
  | .wRegister reg bytes => frameOffer (cmdWRegister reg) bytes
  | .rRxPayload n => frameOffer cmdRRxPayload (List.replicate n dummy)
  | .wTxPayload bytes => frameOffer cmdWTxPayload bytes
  | .wTxPayloadNoack bytes => frameOffer cmdWTxPayloadNoack bytes
  | .flushTxCmd => frameOffer cmdFlushTx []
  | .flushRxCmd => frameOffer cmdFlushRx []
  | .reuseTxPl => frameOffer cmdReuseTxPl []
  | .activate data0 => frameOffer cmdActivate [data0]
  | .rRxPlWid => frameOffer cmdRRxPlWid [dummy]
  | .wAckPayload pipe bytes => frameOffer (cmdWAckPayload pipe) bytes
  | .nop => frameOffer cmdNop []
  | .readRegister addr => requestOffer 0 (addr := addr)
  | .writeRegister addr value => requestOffer 1 (addr := addr) (byte := value)
  | .sendCommand opcode len data => requestOffer 2 (byte := opcode) (count := len) (data := data)
  | .apply cfg => requestOffer 3 (cfg := cfg)
  | .transitionPowerDown => requestOffer 4 (target := 0)
  | .transitionStandby => requestOffer 4 (target := 1)
  | .transitionTransmit => requestOffer 4 (target := 2)
  | .transitionReceive => requestOffer 4 (target := 3)
  | .writeTxPayload noAck len data => requestOffer 5 (noAck := noAck) (count := len) (data := data)
  | .readRxPayload cap => requestOffer 6 (count := cap)
  | .flushTx => requestOffer 7
  | .flushRx => requestOffer 8

/-- The encoder with DUMMY's default, 0xFF (R11). -/
def encode : Instr → Offer := encodeWith 0xFF

/-! ## Opcode-table words -/

/-- How many data bytes are put behind a command byte that stands alone in an opcode-table word: the fewest its row of R82 has. A byte
that matches no row (R84) has no count there, and goes with none (DESIGN CHOICE, log 22). -/
def leastData (cmd : Byte) : BitVec 6 :=
  if cmd &&& 0xC0 = 0x00 ∨ cmd = cmdRRxPayload ∨ cmd = cmdWTxPayload ∨ cmd = cmdWTxPayloadNoack ∨ cmd = cmdActivate ∨
      cmd = cmdRRxPlWid ∨ (0xA8 ≤ cmd ∧ cmd ≤ 0xAD) then 1
  else 0

/-- ACTIVATE's data byte, which its row of R82 fixes (R111). -/
def activateData : Byte := 0x73

/-- The data bytes put behind a command byte that stands alone in an opcode-table word: ACTIVATE's is the one its row of R82
fixes; for every other row they are operands, and zero (log 22). -/
def rowData (cmd : Byte) : Payload := if cmd = cmdActivate then Payload.ofList [activateData] else Payload.zero

/-- What an opcode-table word stands for: an 8-bit word is a command byte with its row's fewest data bytes behind it (none
behind an undefined byte); a longer word is a header word with `data` and `cfg` of zeros beside it (log 22). -/
def Offer.ofTableWord (nbits w : Nat) : Option Offer :=
  if nbits = 8 then some (.frame (BitVec.ofNat 8 w) (leastData (BitVec.ofNat 8 w)) (rowData (BitVec.ofNat 8 w)))
  else if 8 < nbits ∧ nbits ≤ 32 then some (.request (BitVec.ofNat 32 (w % 2 ^ nbits)) Payload.zero Configuration.blank)
  else none

/-- The instruction the decoder reads from an opcode-table word; none where it refuses. -/
def decodeTableWord (nbits w : Nat) : Option Instr :=
  match Offer.ofTableWord nbits w with
  | some o =>
    match o.decode with
    | .ok i => some i
    | .error _ => none
  | none => none

end Sys2Proof
end

