-- ==== Sys2Proof/Machine/RegisterMap.lean ====
section
/-! DEFINITION. The nRF24L01 register map as the encoder sees it (10_state.md part B, R31–R51), the fields of its registers,
and the chip's operating mode (R53). The chip holds these registers, not the block: this file has no state, only what the
encoder needs to build its bytes and a reader needs to read them back. -/

namespace Sys2Proof.Machine

/-- The registers of R31. -/
inductive ChipReg where
  | config
  | enAa
  | enRxaddr
  | setupAw
  | setupRetr
  | rfCh
  | rfSetup
  | status
  | observeTx
  | cdRpd
  | rxAddr (p : Fin 6)
  | txAddr
  | rxPw (p : Fin 6)
  | fifoStatus
  | dynpd
  | feature
  deriving DecidableEq, Repr

/-- The six pipes, in order. -/
def allPipes : List (Fin 6) := [0, 1, 2, 3, 4, 5]

/-- Pipes 2..5, whose upper address bytes are RX_ADDR_P1's (R44, R45). -/
def upperPipes : List (Fin 6) := [2, 3, 4, 5]

/-- Every register of R31. -/
def ChipReg.all : List ChipReg :=
  [.config, .enAa, .enRxaddr, .setupAw, .setupRetr, .rfCh, .rfSetup, .status, .observeTx, .cdRpd] ++
    allPipes.map .rxAddr ++ [.txAddr] ++ allPipes.map .rxPw ++ [.fifoStatus, .dynpd, .feature]

/-- The address column of R31. -/
def ChipReg.addr : ChipReg → BitVec 5
  | .config => 0x00
  | .enAa => 0x01
  | .enRxaddr => 0x02
  | .setupAw => 0x03
  | .setupRetr => 0x04
  | .rfCh => 0x05
  | .rfSetup => 0x06
  | .status => 0x07
  | .observeTx => 0x08
  | .cdRpd => 0x09
  | .rxAddr p => 0x0A + BitVec.ofNat 5 p.val
  | .txAddr => 0x10
  | .rxPw p => 0x11 + BitVec.ofNat 5 p.val
  | .fifoStatus => 0x17
  | .dynpd => 0x1C
  | .feature => 0x1D

/-- The register at an address; none at the reserved addresses of R51. -/
def ChipReg.at? (a : BitVec 5) : Option ChipReg := ChipReg.all.find? fun r => r.addr = a

/-- The bytes column of R31 for an address width `w` of SETUP_AW (3..5). -/
def ChipReg.bytes (w : Nat) : ChipReg → Nat
  | .rxAddr p => if p.val ≤ 1 then w else 1
  | .txAddr => w
  | _ => 1

/-- Whether ACTIVATE is needed to reach the features: the nRF24L01 has the toggle of R25, on the nRF24L01P the features are
always on (R12, R111). -/
def needsActivate : ChipVariant → Bool
  | .nRF24L01 => true
  | .nRF24L01P => false

/-- Whether the chip gives access to its features, when its toggle stands at `activated` (R25, R111). -/
def featuresOn (v : ChipVariant) (activated : Bool) : Bool := !needsActivate v || activated

/-- Whether the register is one the rules call writable, when the feature toggle stands at `activated` (R32–R50); what a chip
makes of a write of another is a draw (U2), which no definition gives. Of STATUS only the flags are, as
`statusWriteOneToClear` and `statusReadOnly` say (R39); on the nRF24L01, DYNPD and FEATURE are writable only while the features are activated
(R49, R50). -/
def ChipReg.writable (v : ChipVariant) (activated : Bool) : ChipReg → Bool
  | .config => true
  | .enAa => true
  | .enRxaddr => true
  | .setupAw => true
  | .setupRetr => true
  | .rfCh => true
  | .rfSetup => true
  | .status => true
  | .observeTx => false
  | .cdRpd => false
  | .rxAddr _ => true
  | .txAddr => true
  | .rxPw _ => true
  | .fifoStatus => false
  | .dynpd => featuresOn v activated
  | .feature => featuresOn v activated

/-- Whether a command is one of those the nRF24L01's toggle gives access to: R_RX_PL_WID, W_ACK_PAYLOAD (0xA8..0xAD, R82) and
W_TX_PAYLOAD_NOACK (R111). -/
def featureCommand (cmd : Byte) : Bool := cmd = cmdRRxPlWid || (0xA8 ≤ cmd && cmd ≤ 0xAD) || cmd = cmdWTxPayloadNoack

/-- Whether ACTIVATE is in the chip's command table (R111). What an nRF24L01P does with one sent raw is a draw (U20). -/
def hasActivate (v : ChipVariant) : Bool := needsActivate v

/-- Whether the chip gives access to a command, when its feature toggle stands at `activated` (R111). -/
def commandAccessible (v : ChipVariant) (activated : Bool) (cmd : Byte) : Bool := !featureCommand cmd || featuresOn v activated

/-- The reset values the chip gives its registers (R32–R50), least-significant byte first. -/
def ChipReg.resetBytes (v : ChipVariant) : ChipReg → List Byte
  | .config => [0x08]
  | .enAa => [0x3F]
  | .enRxaddr => [0x03]
  | .setupAw => [0x03]
  | .setupRetr => [0x03]
  | .rfCh => [0x02]
  | .rfSetup => match v with
    | .nRF24L01 => [0x0F]
    | .nRF24L01P => [0x0E]
  | .status => [0x0E]
  | .observeTx => [0x00]
  | .cdRpd => [0x00]
  | .rxAddr p => match p.val with
    | 0 => [0xE7, 0xE7, 0xE7, 0xE7, 0xE7]
    | 1 => [0xC2, 0xC2, 0xC2, 0xC2, 0xC2]
    | n => [0xC1 + BitVec.ofNat 8 n]
  | .txAddr => [0xE7, 0xE7, 0xE7, 0xE7, 0xE7]
  | .rxPw _ => [0x00]
  | .fifoStatus => [0x11]
  | .dynpd => [0x00]
  | .feature => [0x00]

/-- The reserved bits of a one-byte register, "write 0" (R32–R50). An address register has none. -/
def ChipReg.reservedBits (v : ChipVariant) : ChipReg → Byte
  | .config => 0x80
  | .enAa => 0xC0
  | .enRxaddr => 0xC0
  | .setupAw => 0xFC
  | .setupRetr => 0x00
  | .rfCh => 0x80
  | .rfSetup => match v with
    | .nRF24L01 => 0xE0
    | .nRF24L01P => 0x40
  | .status => 0x80
  | .observeTx => 0x00
  | .cdRpd => 0xFE
  | .rxAddr _ => 0x00
  | .txAddr => 0x00
  | .rxPw _ => 0xC0
  | .fifoStatus => 0x8C
  | .dynpd => 0xC0
  | .feature => 0xF8

/-! ## CONFIG's bits (R32) -/

/-- CONFIG.PRIM_RX. -/
def cfgPrimRx : Byte := 0x01
/-- CONFIG.PWR_UP. -/
def cfgPwrUp : Byte := 0x02
/-- CONFIG.CRCO. -/
def cfgCrco : Byte := 0x04
/-- CONFIG.EN_CRC. -/
def cfgEnCrc : Byte := 0x08
/-- CONFIG.MASK_MAX_RT. -/
def cfgMaskMaxRt : Byte := 0x10
/-- CONFIG.MASK_TX_DS. -/
def cfgMaskTxDs : Byte := 0x20
/-- CONFIG.MASK_RX_DR. -/
def cfgMaskRxDr : Byte := 0x40
/-- The three masks together. -/
def cfgMasks : Byte := cfgMaskMaxRt ||| cfgMaskTxDs ||| cfgMaskRxDr

/-- Whether RX_DR is kept off the IRQ pin: CONFIG.MASK_RX_DR, bit 6. -/
def maskRxDr (config : Byte) : Bool := config.getLsbD 6

/-- Whether TX_DS is kept off the IRQ pin: CONFIG.MASK_TX_DS, bit 5. -/
def maskTxDs (config : Byte) : Bool := config.getLsbD 5

/-- Whether MAX_RT is kept off the IRQ pin: CONFIG.MASK_MAX_RT, bit 4. -/
def maskMaxRt (config : Byte) : Bool := config.getLsbD 4

/-- Whether the chip uses a CRC: EN_CRC, bit 3, which it forces to 1 when any EN_AA bit (R33) is 1. What it then gives for
bit 3 when CONFIG is read back is a draw (U27), as every returned byte is. -/
def crcEnabled (config enAa : Byte) : Bool := config.getLsbD 3 || enAa.extractLsb' 0 6 != 0

/-- The CRC's length in bytes: CRCO, bit 2. -/
def crcLength (config : Byte) : Nat := if config.getLsbD 2 then 2 else 1

/-- Whether a CONFIG value has PWR_UP set. -/
def pwrUp (config : Byte) : Bool := config.getLsbD 1

/-- Whether a CONFIG value has PRIM_RX set. -/
def primRx (config : Byte) : Bool := config.getLsbD 0

/-! ## Fields of the other registers -/

/-- SETUP_AW's width in bytes (R35). For the illegal code it is a FREE VALUE: U10 of 93_implementation_defined.md says that it
is any value, and `draw` numbers it (log 31). -/
def addressWidth (draw : Nat) (setupAw : Byte) : Option Nat :=
  if setupAw.extractLsb' 0 2 = 0 then Config.freeAddressWidth draw setupAw else some ((setupAw.extractLsb' 0 2).toNat + 2)

/-- SETUP_RETR's auto-retransmit delay in microseconds (R36). -/
def retransmitDelayUs (setupRetr : Byte) : Nat := ((setupRetr.extractLsb' 4 4).toNat + 1) * 250

/-- SETUP_RETR's auto-retransmit count (R36). -/
def retransmitCount (setupRetr : Byte) : Nat := (setupRetr.extractLsb' 0 4).toNat

/-- RF_CH's carrier in MHz (R37). -/
def carrierMHz (rfCh : Byte) : Nat := 2400 + (rfCh.extractLsb' 0 7).toNat

/-! ### RF_SETUP (R38): its bit 0, its bit 5 and its bit 7 depend on the variant (R12) -/

/-- RF_SETUP.CONT_WAVE, bit 7; none on the nRF24L01, where the bit is reserved. -/
def contWave (v : ChipVariant) (rfSetup : Byte) : Option Bool :=
  match v with
  | .nRF24L01 => none
  | .nRF24L01P => some (rfSetup.getLsbD 7)

/-- RF_SETUP.PLL_LOCK, bit 4, on either variant. -/
def pllLock (rfSetup : Byte) : Bool := rfSetup.getLsbD 4

/-- RF_SETUP.LNA_HCURR, bit 0; none on the nRF24L01P, where the bit is obsolete ("don't care"). -/
def lnaHcurr (v : ChipVariant) (rfSetup : Byte) : Option Bool :=
  match v with
  | .nRF24L01 => some (rfSetup.getLsbD 0)
  | .nRF24L01P => none

/-- RF_SETUP's data rate in kbps (R38). On the nRF24L01 bit 3 alone has a meaning, for 1 and 2 Mbps. The rate is a FREE VALUE
for bit 5 set on the nRF24L01, where it is reserved, and for the reserved code (1,1) on the nRF24L01P: U8 and U9 of
93_implementation_defined.md say that it is a draw and any value, and `draw` numbers it (log 31). -/
def dataRateKbps (v : ChipVariant) (draw : Nat) (rfSetup : Byte) : Option Nat :=
  match v with
  | .nRF24L01 =>
    if rfSetup.getLsbD 5 then Config.freeDataRate .nRF24L01 draw rfSetup
    else some (if rfSetup.getLsbD 3 then 2000 else 1000)
  | .nRF24L01P =>
    match rfSetup.getLsbD 5, rfSetup.getLsbD 3 with
    | false, false => some 1000
    | false, true => some 2000
    | true, false => some 250
    | true, true => Config.freeDataRate .nRF24L01P draw rfSetup

/-- RF_SETUP's output power in dBm (R38). -/
def rfPowerDbm (rfSetup : Byte) : Int := -18 + 6 * (rfSetup.extractLsb' 1 2).toNat

/-- OBSERVE_TX's count of lost packets (R40). -/
def lostPackets (observeTx : Byte) : Nat := (observeTx.extractLsb' 4 4).toNat

/-- OBSERVE_TX's retransmits of the current packet (R40). -/
def currentRetransmits (observeTx : Byte) : Nat := (observeTx.extractLsb' 0 4).toNat

/-- What bit 0 of CD / RPD tells (R42). -/
inductive PowerDetector where
  /-- CD: a carrier is detected. -/
  | carrier (detected : Bool)
  /-- RPD: received power is detected. -/
  | receivedPower (detected : Bool)
  deriving DecidableEq, Repr

/-- CD / RPD's bit 0: CD on the nRF24L01, RPD on the nRF24L01P (R42). -/
def powerDetector (v : ChipVariant) (cdRpd : Byte) : PowerDetector :=
  match v with
  | .nRF24L01 => .carrier (cdRpd.getLsbD 0)
  | .nRF24L01P => .receivedPower (cdRpd.getLsbD 0)

/-- RX_PW_Px's static payload width (R47); 0 is "pipe not used". -/
def payloadWidth (rxPw : Byte) : Nat := (rxPw.extractLsb' 0 6).toNat

/-! ### FIFO_STATUS (R48), which the block itself never reads -/

/-- FIFO_STATUS.TX_REUSE, bit 6. -/
def fifoTxReuse (fifoStatus : Byte) : Bool := fifoStatus.getLsbD 6
/-- FIFO_STATUS.TX_FULL, bit 5. -/
def fifoTxFull (fifoStatus : Byte) : Bool := fifoStatus.getLsbD 5
/-- FIFO_STATUS.TX_EMPTY, bit 4. -/
def fifoTxEmpty (fifoStatus : Byte) : Bool := fifoStatus.getLsbD 4
/-- FIFO_STATUS.RX_FULL, bit 1. -/
def fifoRxFull (fifoStatus : Byte) : Bool := fifoStatus.getLsbD 1
/-- FIFO_STATUS.RX_EMPTY, bit 0. -/
def fifoRxEmpty (fifoStatus : Byte) : Bool := fifoStatus.getLsbD 0

/-! ### DYNPD and FEATURE (R49, R50) -/

/-- FEATURE.EN_DPL (R50). -/
def featureEnDpl : Byte := 0x04
/-- FEATURE.EN_ACK_PAY (R50). -/
def featureEnAckPay : Byte := 0x02
/-- FEATURE.EN_DYN_ACK (R50). -/
def featureEnDynAck : Byte := 0x01

/-- Whether pipe `p` has dynamic payload length: DYNPD.DPL_Pp, with FEATURE.EN_DPL and EN_AA.ENAA_Pp set, as the chip
requires (R49). -/
def pipeDynamicLength (dynpd feature enAa : Byte) (p : Fin 6) : Bool :=
  dynpd.getLsbD p.val && feature &&& featureEnDpl != 0 && enAa.getLsbD p.val

/-! ## The chip's operating mode (R53) -/

/-- The chip's operating modes. -/
inductive ChipMode where
  | powerDown
  | standbyI
  | standbyII
  | tx
  | rx
  deriving DecidableEq, Repr

/-- The chip's operating mode as a function of CONFIG, the CE level and whether its TX FIFO is empty (R53). -/
def chipMode (config : Byte) (ce : Level) (txEmpty : Bool) : ChipMode :=
  if pwrUp config then
    match ce with
    | .low => .standbyI
    | .high => if primRx config then .rx else if txEmpty then .standbyII else .tx
  else .powerDown

/-- The correspondence of the block's logical modes with the chip's (R53). -/
def Mode.matchesChip : Mode → ChipMode → Bool
  | .powerDown, .powerDown => true
  | .standby, .standbyI => true
  | .transmit, .tx => true
  | .transmit, .standbyII => true
  | .receive, .rx => true
  | _, _ => false

end Sys2Proof.Machine
end

