-- ==== Sys2Proof/Machine/Flags.lean ====
section
/-! DEFINITION. The flags of a status byte (R39, R41) and what a write of STATUS does to them. `txFull`, `rxPipe` and
`rxAvailable` are the only readings of a status byte that any rule of the block makes. -/

namespace Sys2Proof.Machine

/-- `txFull(s) = s[0]` (R41). -/
def txFull (status : Byte) : Bool := status.getLsbD 0

/-- `rxPipe(s) = s[3:1]` (R41). -/
def rxPipe (status : Byte) : BitVec 3 := status.extractLsb' 1 3

/-- `rxAvailable(s) = (rxPipe(s) ≤ 5)` (R41): 0b110 counts as no payload, as 0b111 does. -/
def rxAvailable (status : Byte) : Bool := rxPipe status ≤ 5

/-- RX_DR, bit 6 (R39). No rule of the block reads it (R186). -/
def rxDr (status : Byte) : Bool := status.getLsbD 6

/-- TX_DS, bit 5 (R39). -/
def txDs (status : Byte) : Bool := status.getLsbD 5

/-- MAX_RT, bit 4 (R39). -/
def maxRt (status : Byte) : Bool := status.getLsbD 4

/-! ## STATUS's access column (R39) -/

/-- The bits of STATUS that writing a 1 clears: RX_DR, TX_DS and MAX_RT. -/
def statusWriteOneToClear : Byte := 0x70

/-- The bits of STATUS that are read-only: RX_P_NO and TX_FULL. -/
def statusReadOnly : Byte := 0x0F

/-- The flags of STATUS after a write of `written`: one written 1 is clear, one written 0 is as it was. -/
def flagsAfterWrite (written status : Byte) : Byte := status &&& statusWriteOneToClear &&& ~~~written

/-- STATUS after a write of `written`, as the write alone leaves it: the flags as R39 says, and the reserved bit 7, which reads
0. A write also writes the read-only bits 3:0, and U2 of 93_implementation_defined.md makes what the chip does to them a draw:
they are a FREE VALUE, which `draw` numbers (log 32). -/
def statusAfterWrite (draw : Nat) (written status : Byte) : Byte :=
  flagsAfterWrite written status ||| (Config.freeStatus draw written status &&& statusReadOnly)

end Sys2Proof.Machine
end

