-- ==== Sys2Proof/Machine/State.lean ====
section
/-! DEFINITION. The state as plain data: the block's registers (10_state.md part A), the parameters, and the outside world as
data; the reasons a step can stop; the state after reset (R30, R240). -/

namespace Sys2Proof.Machine

/-- The sequencer's state (R27). `bare` is the model's own (log 10). `ceDriven`, `activating` and `width` are too: locals of a
request's pseudocode that live from one capability call to a later one (DESIGN CHOICE, log 13). -/
structure Seq where
  /-- `seq.busy`: a request is being run. -/
  busy : Bool
  /-- `seq.req`: the request being run (R85). -/
  req : Request
  /-- `req` holds a bare SPI frame, as the SEND_COMMAND request of its bytes (log 10). -/
  bare : Bool
  /-- `seq.k`: the capability calls the current request has made. -/
  k : BitVec 5
  /-- APPLY: its first call is the CE drive of R124. -/
  ceDriven : Bool
  /-- APPLY: it sends ACTIVATE (R132). -/
  activating : Bool
  /-- READ_RX_PAYLOAD under Dynamic: the width L read by R_RX_PL_WID (R187). -/
  width : Byte
  deriving DecidableEq, Repr

/-- A scripted answer of the bus transport (R13). -/
inductive SpiAnswer where
  | rx (bytes : List Byte)
  | error (e : BusError)
  deriving DecidableEq, Repr

/-- A scripted answer of the CE output (R14). -/
inductive PinAnswer where
  | ok
  | error (e : GpioError)
  deriving DecidableEq, Repr

/-- An event of the capability-call trace (R92, R227), and a reset of the block among them. -/
inductive Event where
  /-- A transaction that returned. -/
  | xfer (tx rx : List Byte)
  /-- A transaction that returned BusError. -/
  | xferError (tx : List Byte) (e : BusError)
  /-- A CE level driven. -/
  | ce (level : Level)
  /-- A CE drive that returned GpioError. -/
  | ceError (level : Level) (e : GpioError)
  /-- A wait: the microseconds asked for, and how long it lasted. -/
  | wait (asked lasted : Nat)
  /-- A reset of the block; when it cut a request, whether the call in flight reached the chip (R240). -/
  | reset (cut : Option Bool)
  deriving DecidableEq, Repr

/-- The world outside the block, as data: the model's own (log 2, 8, 9, 24, 25). -/
structure Env where
  /-- What the host presents, in order; the head stands at the block's input (R8). -/
  requests : List Offer
  /-- The level of the reset input at this step and the next ones; low when the list is empty (R240). -/
  resetIn : List Bool
  /-- Whether the capability call made at this step, and at the next ones, is suspended: not complete by the step's end; each
  call completes in its step when the list is empty (R17, log 25). -/
  suspend : List Bool
  /-- The answers the bus transport gives next; free draws when the list is empty (R16). -/
  spi : List SpiAnswer
  /-- The answers the CE output gives next; free draws when the list is empty (R16). -/
  pin : List PinAnswer
  /-- The number of the next free draw. -/
  draws : Nat
  /-- The trace, newest first (R71). -/
  events : List Event
  deriving DecidableEq, Repr

/-- The machine. -/
structure State where
  /-- R21. -/
  mode : Mode
  /-- `config_shadow`, R22. -/
  configShadow : Byte
  /-- R23. -/
  payloadMode : PayloadMode
  /-- R24. -/
  configured : Bool
  /-- R25. -/
  featuresActive : Bool
  /-- R26. -/
  ceShadow : CeShadow
  /-- R27. -/
  seq : Seq
  /-- R28. -/
  res : Result
  /-- R10–R12. -/
  params : Params
  /-- R7, R13–R16. -/
  env : Env
  deriving DecidableEq, Repr

/-- Why the machine stops. Both stand only in states that no run reaches (log 14), where the spec gives no effect. -/
inductive Fault where
  /-- `seq.k` names no call of the request being run (R27). Raised by APPLY, the transitions, WRITE_TX_PAYLOAD and
  READ_RX_PAYLOAD. Safe: the machine stops where the spec says nothing. -/
  | noSuchCall
  /-- WRITE_TX_PAYLOAD with `configured` = 1 and `payload_mode` = None, of which R181 says that it cannot occur. Raised by
  WRITE_TX_PAYLOAD. Safe: the machine stops where the spec says nothing. -/
  | payloadModeUnset
  deriving DecidableEq, Repr

/-- Why an instruction has no meaning. -/
inductive Refusal where
  /-- The instruction's meaning is not written yet. No arm of `exec` answers it: every instruction has its meaning. Safe. -/
  | notModelled (mnemonic : String)
  deriving DecidableEq, Repr

/-! ## Reset (R30, R240) -/

/-- The result record the model names for reset (DESIGN CHOICE, log 7: R30 leaves every field unspecified). -/
def Result.blank : Result :=
  { err := 0, statusValid := false, status := 0, value := 0, len := 0, data := Payload.zero, fromMode := 0, toMode := 0,
    given := 0, max := 0, required := 0, actual := 0, reason := 0, busErr := default, pinErr := default }

/-- The sequencer at reset (R30); `req` and the locals at the values the model names (DESIGN CHOICE, log 7, 13). -/
def Seq.atReset : Seq :=
  { busy := false, req := Request.blank, bare := false, k := 0, ceDriven := false, activating := false, width := 0 }

/-- The outside world with nothing presented, nothing scripted and nothing seen. -/
def Env.quiet : Env := { requests := [], resetIn := [], suspend := [], spi := [], pin := [], draws := 0, events := [] }

/-- The block right after reset (R30, R240), with the parameters and the outside world given. -/
def State.resetWith (p : Params) (e : Env) : State :=
  { mode := .powerDown, configShadow := p.configReset, payloadMode := .unset, configured := false, featuresActive := false,
    ceShadow := .unknown, seq := Seq.atReset, res := Result.blank, params := p, env := e }

/-- The machine right after reset, the parameters at their defaults (R10–R12). -/
def State.reset : State := State.resetWith Config.defaults Env.quiet

/-! ## One update per field -/

/-- `mode <- m`. -/
def State.setMode (m : Mode) (s : State) : State := { s with mode := m }
/-- `config_shadow <- v`. -/
def State.setConfigShadow (v : Byte) (s : State) : State := { s with configShadow := v }
/-- `payload_mode <- m`. -/
def State.setPayloadMode (m : PayloadMode) (s : State) : State := { s with payloadMode := m }
/-- `configured <- b`. -/
def State.setConfigured (b : Bool) (s : State) : State := { s with configured := b }
/-- `features_active <- b`. -/
def State.setFeaturesActive (b : Bool) (s : State) : State := { s with featuresActive := b }
/-- `ce_shadow <- c`. -/
def State.setCeShadow (c : CeShadow) (s : State) : State := { s with ceShadow := c }
/-- The sequencer's state replaced. -/
def State.setSeq (q : Seq) (s : State) : State := { s with seq := q }
/-- The result record replaced. -/
def State.setRes (r : Result) (s : State) : State := { s with res := r }
/-- The outside world replaced. -/
def State.setEnv (e : Env) (s : State) : State := { s with env := e }

end Sys2Proof.Machine
end

