-- ==== Sys2Proof/Machine/Operands.lean ====
section
/-! DEFINITION. Operand forms: a byte of a response (R80), the payload limit (R181), the validity of a Configuration (R123)
and its translation into register values (R126–R133). -/

namespace Sys2Proof.Machine

/-- Byte `i` of a response (R18). -/
def byteAt (r : List Byte) (i : Nat) : Byte := r.getD i 0

/-- The payload limit `maxTx` (R181); none where `payload_mode` = None, which "cannot occur here". -/
def maxTx : PayloadMode → Option Byte
  | .unset => none
  | .static n => some (n.setWidth 8)
  | .dynamic => some 32

/-- The command byte of a payload write (R183). -/
def txCommand (noAck : Bool) : Byte := if noAck then cmdWTxPayloadNoack else cmdWTxPayload

/-! ## Validate (R123) -/

/-- `hi`: some pipe of 2..5 is enabled (R123, R131). -/
def upperEnabled (cfg : Configuration) : Bool := upperPipes.any fun p => (cfg.pipe p).enabled

/-- Some enabled pipe's address is not `aw` bytes long. -/
def lengthMismatch (cfg : Configuration) : Bool :=
  allPipes.any fun p => (cfg.pipe p).enabled && (cfg.pipe p).addrLen != cfg.aw

/-- `addr[1 .. aw-1]` of pipe `p`. -/
def upperBytes (cfg : Configuration) (p : Fin 6) : List Byte := ((cfg.pipe p).addrBytes cfg.aw.toNat).drop 1

/-- Some enabled pipe of 2..5 does not share pipe 1's upper address bytes. -/
def notRepresentable (cfg : Configuration) : Bool :=
  upperPipes.any fun p => (cfg.pipe p).enabled && upperBytes cfg p != upperBytes cfg 1

/-- `Validate(cfg)`: the first failing reason in R123's order, or none. -/
def validate (cfg : Configuration) : Option ConfigReason :=
  if 125 < cfg.channel then some .channelOutOfRange
  else if cfg.dataRate = 3 then some .invalidDataRate
  else if cfg.crc = 3 then some .invalidCrcMode
  else if ¬(cfg.aw = 3 ∨ cfg.aw = 4 ∨ cfg.aw = 5) then some .invalidAddressWidth
  else if lengthMismatch cfg then some .addressLengthMismatch
  else if upperEnabled cfg ∧ (cfg.pipe 1).addrLen ≠ cfg.aw then some .addressLengthMismatch
  else if notRepresentable cfg then some .pipeAddressNotRepresentable
  else if cfg.pmDynamic = false ∧ (cfg.pmStaticN = 0 ∨ 32 < cfg.pmStaticN) then some .staticPayloadSizeOutOfRange
  else if allPipes.all fun p => !(cfg.pipe p).enabled then some .noPipeEnabled
  else none

/-! ## The register values of a Configuration (R126–R133) -/

/-- RF_CH (R126). -/
def rfChValue (cfg : Configuration) : Byte := cfg.channel.setWidth 8

/-- `DR(data_rate)` (R127). The fourth code never gets here: `validate` refuses it. -/
def dataRateBits (rate : BitVec 2) : Byte :=
  if rate = 0 then 0x20 else if rate = 2 then 0x08 else 0x00

/-- RF_SETUP (R127). -/
def rfSetupValue (p : Params) (cfg : Configuration) : Byte := p.rfSetupBase ||| dataRateBits cfg.dataRate

/-- `Σ_p f(pipe p) << p` (R128, R129, R132). -/
def pipeMask (cfg : Configuration) (f : Pipe → Bool) : Byte :=
  allPipes.foldl (fun acc p => acc + ((BitVec.ofBool (f (cfg.pipe p))).setWidth 8 <<< p.val)) 0

/-- EN_AA (R128): a disabled pipe's bit is 0. -/
def enAaValue (cfg : Configuration) : Byte := pipeMask cfg fun q => q.enabled && q.autoAck

/-- EN_RXADDR (R129), and DYNPD under Dynamic (R132). -/
def enabledMask (cfg : Configuration) : Byte := pipeMask cfg Pipe.enabled

/-- SETUP_AW (R130). -/
def setupAwValue (cfg : Configuration) : Byte := cfg.aw.setWidth 8 - 2

/-- The CRC bits of CONFIG (R133). The fourth code never gets here: `validate` refuses it. -/
def crcBits (crc : BitVec 2) : Byte :=
  if crc = 1 then cfgEnCrc else if crc = 2 then cfgEnCrc ||| cfgCrco else 0

/-- The bits of CONFIG that APPLY keeps from the shadow: MASK_*, PWR_UP and PRIM_RX (R133). -/
def applyKeep : Byte := 0x73

/-- RX_PW_Pp under Static (R132): 0 for a disabled pipe. -/
def rxPwValue (cfg : Configuration) (p : Fin 6) : Byte := if (cfg.pipe p).enabled then cfg.pmStaticN.setWidth 8 else 0

/-- The payload mode APPLY leaves (R134). -/
def appliedPayloadMode (cfg : Configuration) : PayloadMode :=
  if cfg.pmDynamic then .dynamic else .static cfg.pmStaticN

end Sys2Proof.Machine
end

