-- ==== Sys2Proof/Machine/Ops.lean ====
section
/-! DEFINITION. The shared operations: the three capability calls (R13–R15) with the transaction primitive `Xfer` (R102), the
end of a request by success or by error (R218), and the ways a request and a reset come in (R8, R240). -/

namespace Sys2Proof.Machine

/-! ## The end of a request -/

/-- One capability call made, the request goes on (R27). -/
def State.advance (s : State) : State := s.setSeq { s.seq with k := s.seq.k + 1 }

/-- The sequencer is idle again: `seq.busy <- 0`, `seq.k <- 0` (R27). -/
def State.endRequest (s : State) : State := s.setSeq { s.seq with busy := false, k := 0 }

/-- `return`: the request ends with `err` = 0; `named` writes the result fields the request names (R18, R28). -/
def State.succeed (named : Result → Result) (s : State) : State :=
  (s.setRes { named s.res with err := 0 }).endRequest

/-- `raise e`: the request ends with that error; nothing is rolled back (R18, R218, R219). This is the block's one way of
taking what a processor would call an exception; there is no return from it (R220). -/
def State.raise (e : ReqError) (s : State) : State := (s.setRes (s.res.withError e)).endRequest

/-! ## The SPI bus (R13, R102) -/

/-- `n` response bytes: the scripted ones, and free draws where none stands (R13: as many bytes come back as went out). -/
def responseBytes (draw n : Nat) (scripted : List Byte) : List Byte :=
  (List.range n).map fun i => scripted.getD i (Config.freeRxByte draw i)

/-- What the bus answers to a transaction of `n` bytes: the next scripted answer, else a free draw (R16). -/
def State.spiReply (n : Nat) (s : State) : Except BusError (List Byte) :=
  match s.env.spi with
  | .error e :: _ => .error e
  | .rx bytes :: _ => .ok (responseBytes s.env.draws n bytes)
  | [] =>
    match Config.freeBusError s.env.draws with
    | some e => .error e
    | none => .ok (responseBytes s.env.draws n [])

/-- A bus call made: the answer is used up and the event stands in the trace. -/
def State.spiDone (ev : Event) (s : State) : State :=
  s.setEnv { s.env with spi := s.env.spi.tail, draws := s.env.draws + 1, events := ev :: s.env.events }

/-- The state after a transaction that returned `rx` (R102): `res.status_valid` and `res.status` are written. -/
def State.received (tx rx : List Byte) (s : State) : State :=
  (s.spiDone (.xfer tx rx)).setRes { s.res with statusValid := true, status := byteAt rx 0 }

/-- The state after a transaction that returned a BusError: the request ends with Transport(e) (R102, R213). -/
def State.busFailed (tx : List Byte) (e : BusError) (s : State) : State :=
  (s.spiDone (.xferError tx e)).raise (.transport e)

/-- `r <- Xfer(tx)`, and `andThen r` on success (R102). Nothing is retried. -/
def State.xfer (tx : List Byte) (s : State) (andThen : List Byte → State → State) : State :=
  match s.spiReply tx.length with
  | .error e => s.busFailed tx e
  | .ok rx => andThen rx (s.received tx rx)

/-- `RegRead(a, n)` (R100). -/
def State.regRead (a : BitVec 5) (n : Nat) (s : State) (andThen : List Byte → State → State) : State :=
  s.xfer (cmdRRegister a :: List.replicate n s.params.dummy) andThen

/-- `RegWrite(a, v)` (R101). -/
def State.regWrite (a : BitVec 5) (v : List Byte) (s : State) (andThen : State → State) : State :=
  s.xfer (cmdWRegister a :: v) fun _ => andThen

/-! ## The CE output (R14) -/

/-- Whether the CE output fails at the next drive: the next scripted answer, else a free draw (R16). -/
def State.pinReply (s : State) : Option GpioError :=
  match s.env.pin with
  | .ok :: _ => none
  | .error e :: _ => some e
  | [] => Config.freePinError s.env.draws

/-- A CE drive made: the answer is used up and the event stands in the trace. -/
def State.pinDone (ev : Event) (s : State) : State :=
  s.setEnv { s.env with pin := s.env.pin.tail, draws := s.env.draws + 1, events := ev :: s.env.events }

/-- `SetCE(l); ce_shadow <- l`, and `andThen` on success; on GpioError, `ce_shadow <- Unknown` and Pin(e) (R26, R213). -/
def State.setCe (l : Level) (s : State) (andThen : State → State) : State :=
  match s.pinReply with
  | some e => ((s.pinDone (.ceError l e)).setCeShadow .unknown).raise (.pin e)
  | none => andThen ((s.pinDone (.ce l)).setCeShadow l.shadow)

/-! ## The delay provider (R15) -/

/-- `Delay(us)`: it lasts at least `us` and cannot fail (R15). -/
def State.delay (us : Nat) (s : State) : State :=
  s.setEnv { s.env with
    draws := s.env.draws + 1, events := .wait us (us + Config.freeExcess s.env.draws) :: s.env.events }

/-! ## Taking a request (R8) -/

/-- The block takes what stands at its input: `seq.busy <- 1`, `seq.k <- 0`, `seq.req` holds it (R8, R27) and
`res.status_valid <- 0` (R102). The result fields the request will not name are any value (R28), so all become free values
here, and the request writes the ones it names. -/
def State.accept (o : Offer) (s : State) : State :=
  ((s.setSeq { s.seq with busy := true, req := o.record, bare := o.isFrame, k := 0 }).setRes
      { Config.freeResult s.env.draws with statusValid := false }).setEnv
    { s.env with requests := s.env.requests.tail, draws := s.env.draws + 1 }

/-- What the sequencer holds, decoded: the bare frame, or the request (R27, R85; log 10). -/
def Seq.held (q : Seq) : Except Reject Instr :=
  if q.bare then (Offer.frame q.req.opcode q.req.len q.req.data).decode else decodeRequest q.req

/-- The state the block runs from at this step: as it is when it is running a request; with the request at its input taken
when it is idle; none when nothing is there (R8: a request presented while `seq.busy` = 1 is not taken). -/
def State.fetch (s : State) : Option State :=
  if s.seq.busy then some s
  else
    match s.env.requests with
    | [] => none
    | o :: _ => some (s.accept o)

/-! ## The reset input and the suspension of calls (R17, R217, R240, R248) -/

/-- The level of the reset input at this step. -/
def State.resetLevel (s : State) : Bool := s.env.resetIn.headD false

/-- Whether a capability call made at this step does not complete in it (R17). -/
def State.suspended (s : State) : Bool := s.env.suspend.headD false

/-- The state with this step's samples of the reset input and of the suspension used up. -/
def State.sampled (s : State) : State :=
  s.setEnv { s.env with resetIn := s.env.resetIn.tail, suspend := s.env.suspend.tail }

/-- The block is reset: every register at its reset value, no capability call, a call in flight abandoned (R240). A block that
runs a request has its call numbered `seq.k` in flight; whether that call reached the chip is a free value (U24). -/
def State.takeReset (s : State) : State :=
  State.resetWith s.params { s.sampled.env with
    draws := s.env.draws + 1
    events := .reset (if s.seq.busy then some (Config.freeReached s.env.draws) else none) :: s.env.events }

/-! ## Presenting an opcode-table word -/

/-- The state with the instruction of an opcode-table word at the block's input, the block idle, the reset input low and no
call suspended, so that the very next step takes and runs it (log 9, log 22). -/
def State.present (s : State) (nbits w : Nat) : State :=
  match Offer.ofTableWord nbits w with
  | none => s
  | some o =>
    (s.setSeq { s.seq with busy := false, k := 0 }).setEnv
      { s.env with
        requests := o :: s.env.requests, resetIn := false :: s.env.resetIn, suspend := false :: s.env.suspend }

end Sys2Proof.Machine
end

