-- ==== Sys2Proof/Machine/Sequencer.lean ====
section
/-! DEFINITION. Requests of several capability calls: the calls as data, making one of them, and running a request's list of
calls one call a step (R17, R27). -/

namespace Sys2Proof.Machine

/-- A capability call of APPLY or of a transition, with what it does to the block's registers on success. -/
inductive Call where
  /-- `SetCE(l); ce_shadow <- l`. -/
  | ce (l : Level)
  /-- `RegWrite(a, v)`. -/
  | regWrite (a : BitVec 5) (v : List Byte)
  /-- ACTIVATE 0x73 (R111), which flips `features_active` (R25). -/
  | activate
  /-- `new <- (config_shadow & keep) | set; RegWrite(0x00, [new]); config_shadow <- new`. -/
  | config (keep set : Byte)
  /-- `Delay(us)`. -/
  | wait (us : Nat)
  deriving DecidableEq, Repr

/-- The CONFIG value a read-modify-write of the shadow makes (R73, R133, R151–R159). -/
def configValue (keep set shadow : Byte) : Byte := (shadow &&& keep) ||| set

/-- One call made: its events and updates, then `andThen`, or the request's end with the call's error (R162, R219). -/
def State.perform (c : Call) (s : State) (andThen : State → State) : State :=
  match c with
  | .ce l => s.setCe l andThen
  | .regWrite a v => s.regWrite a v andThen
  | .activate => s.xfer [cmdActivate, 0x73] fun _ t => andThen (t.setFeaturesActive (!t.featuresActive))
  | .config keep set =>
    s.regWrite ChipReg.config.addr [configValue keep set s.configShadow] fun t =>
      andThen (t.setConfigShadow (configValue keep set s.configShadow))
  | .wait us => andThen (s.delay us)

/-- One step of a request whose calls are `calls`: the call numbered `seq.k` (R27). After the last one `done` writes what
only a fully successful request writes (R134, R162), and the request ends. -/
def State.runCalls (calls : List Call) (done : State → State) (s : State) : Host.Outcome State Fault Refusal :=
  match calls[s.seq.k.toNat]? with
  | none => .fault .noSuchCall
  | some c =>
    .next (s.perform c fun t =>
      if s.seq.k.toNat + 1 = calls.length then (done t).succeed id else t.advance)

end Sys2Proof.Machine
end

