-- ==== Sys2Proof/Machine/Apply.lean ====
section
/-! DEFINITION. APPLY (41_configuration.md): its checks, its list of capability calls, its completion. -/

namespace Sys2Proof.Machine

/-- The RX address writes, in pipe order (R131): an enabled pipe's, and RX_ADDR_P1 also when a pipe of 2..5 is enabled. -/
def addressWrites (cfg : Configuration) : List Call :=
  (if (cfg.pipe 0).enabled then
      [.regWrite (ChipReg.rxAddr 0).addr ((cfg.pipe 0).addrBytes cfg.aw.toNat)] else []) ++
  (if (cfg.pipe 1).enabled || upperEnabled cfg then
      [.regWrite (ChipReg.rxAddr 1).addr ((cfg.pipe 1).addrBytes cfg.aw.toNat)] else []) ++
  (upperPipes.filter fun p => (cfg.pipe p).enabled).map fun p =>
    .regWrite (ChipReg.rxAddr p).addr ((cfg.pipe p).addrBytes 1)

/-- The payload sizing writes (R132). -/
def sizingWrites (p : Params) (cfg : Configuration) (activating : Bool) : List Call :=
  if cfg.pmDynamic then
    (if activating then [.activate] else []) ++
      [.regWrite ChipReg.feature.addr [p.featureDynamic], .regWrite ChipReg.dynpd.addr [enabledMask cfg]]
  else allPipes.map fun q => .regWrite (ChipReg.rxPw q).addr [rxPwValue cfg q]

/-- `WriteRegisters(cfg)`, in R125's order. -/
def registerWrites (p : Params) (cfg : Configuration) (activating : Bool) : List Call :=
  [.regWrite ChipReg.rfCh.addr [rfChValue cfg],
    .regWrite ChipReg.rfSetup.addr [rfSetupValue p cfg],
    .regWrite ChipReg.enAa.addr [enAaValue cfg],
    .regWrite ChipReg.enRxaddr.addr [enabledMask cfg],
    .regWrite ChipReg.setupAw.addr [setupAwValue cfg]] ++
  addressWrites cfg ++ sizingWrites p cfg activating

/-- The capability calls of an APPLY, CONFIG last (R121, R124, R125, R133). -/
def applyCalls (p : Params) (cfg : Configuration) (ceDriven activating : Bool) : List Call :=
  (if ceDriven then [.ce .low] else []) ++ registerWrites p cfg activating ++ [.config applyKeep (crcBits cfg.crc)]

/-- What only a fully successful APPLY writes (R134). -/
def State.applyDone (cfg : Configuration) (s : State) : State :=
  (s.setPayloadMode (appliedPayloadMode cfg)).setConfigured true

/-- APPLY's checks, in R121's order: `Validate`, then the mode. -/
def State.applyRefusal (cfg : Configuration) (s : State) : Option ReqError :=
  match validate cfg with
  | some reason => some (.configError reason)
  | none => if s.mode.isIn 0b0011 then none else some (.invalidMode 0b0011 s.mode)

/-- The two choices of APPLY's pseudocode that depend on the block's registers, held for its later calls (R124, R132). -/
def State.applyChoices (cfg : Configuration) (s : State) : State :=
  s.setSeq { s.seq with
    ceDriven := s.ceShadow != .low
    activating := cfg.pmDynamic && s.params.activateRequired && !s.featuresActive }

/-- The call of an APPLY that `seq.k` names. -/
def State.applyCall (cfg : Configuration) (s : State) : Host.Outcome State Fault Refusal :=
  s.runCalls (applyCalls s.params cfg s.seq.ceDriven s.seq.activating) (State.applyDone cfg)

/-- APPLY (R121). -/
def execApply (cfg : Configuration) (s : State) : Host.Outcome State Fault Refusal :=
  if s.seq.k = 0 then
    match s.applyRefusal cfg with
    | some e => .next (s.raise e)
    | none => (s.applyChoices cfg).applyCall cfg
  else s.applyCall cfg

end Sys2Proof.Machine
end

