-- ==== Sys2Proof/Machine/Raw.lean ====
section
/-! DEFINITION. The raw requests READ_REGISTER, WRITE_REGISTER and SEND_COMMAND (40_register_access.md), the raw transaction
they and the SPI commands share, and what the block does with what spells no instruction (R84, R89, R115). -/

namespace Sys2Proof.Machine

/-- `config_shadow` after a raw transaction that returned: a W_REGISTER to CONFIG updates it (R22, R109). -/
def shadowAfter (opcode : Byte) (data : List Byte) (shadow : Byte) : Byte :=
  match data with
  | b :: _ => if opcode = 0x20 then b else shadow
  | [] => shadow

/-- `features_active` after a raw transaction that returned: ACTIVATE with data byte 0x73 flips it (R25, R109). -/
def featuresAfter (opcode : Byte) (data : List Byte) (active : Bool) : Bool :=
  match data with
  | b :: _ => if opcode = 0x50 ∧ b = 0x73 then !active else active
  | [] => active

/-- The raw transaction of R109: the command byte and the data bytes go out unchanged; the shadows follow; the response bytes
behind STATUS are handed to the host. -/
def State.sendRaw (opcode : Byte) (data : List Byte) (s : State) : State :=
  s.xfer (opcode :: data) fun r t =>
    ((t.setConfigShadow (shadowAfter opcode data t.configShadow)).setFeaturesActive
        (featuresAfter opcode data t.featuresActive)).succeed fun res =>
      { res with len := BitVec.ofNat 6 data.length, data := Payload.overlay (r.drop 1) res.data }

/-- SEND_COMMAND's whole effect (R109): more than 32 data bytes are refused before any bus activity. -/
def State.sendCommand (opcode : Byte) (len : BitVec 6) (data : Payload) (s : State) : State :=
  if 32 < len then s.raise (.payloadTooLarge (len.setWidth 8) 32) else s.sendRaw opcode (data.front len.toNat)

/-- READ_REGISTER (R103). -/
def execReadRegister (addr : BitVec 5) (s : State) : Host.Outcome State Fault Refusal :=
  .next (s.regRead addr 1 fun r t => t.succeed fun res => { res with value := byteAt r 1 })

/-- WRITE_REGISTER (R106). -/
def execWriteRegister (addr : BitVec 5) (value : Byte) (s : State) : Host.Outcome State Fault Refusal :=
  .next (s.regWrite addr [value] fun t =>
    (if addr = 0x00 then t.setConfigShadow value else t).succeed id)

/-- SEND_COMMAND (R109). -/
def execSendCommand (opcode : Byte) (len : BitVec 6) (data : Payload) (s : State) : Host.Outcome State Fault Refusal :=
  .next (s.sendCommand opcode len data)

/-- What spells no instruction: a reserved request code ends with IllegalRequest (R89); a frame that matches no row of R82
goes out unchanged, as the SEND_COMMAND request that `seq.req` holds (R84, R115; log 11). -/
def execRejected (r : Reject) (s : State) : Host.Outcome State Fault Refusal :=
  match r with
  | .reservedOp _ => .next (s.raise .illegalRequest)
  | .undefinedCommand _ => .next (s.sendCommand s.seq.req.opcode s.seq.req.len s.seq.req.data)
  | .dataCount _ _ => .next (s.sendCommand s.seq.req.opcode s.seq.req.len s.seq.req.data)

end Sys2Proof.Machine
end

