-- ==== Sys2Proof/Machine/Frames.lean ====
section
/-! DEFINITION. The SPI commands as instructions (R82, R100–R114): each is the one transaction its rule gives, with the shadow
updates of a raw transaction (R22, R25, R109; DESIGN CHOICE, log 10). The chip's side of each has no state here (R52). -/

namespace Sys2Proof.Machine

/-- R_REGISTER: `Xfer([0x00 | reg] ++ rep(DUMMY, n))` (R100). -/
def execRRegister (reg : BitVec 5) (n : Nat) (s : State) : Host.Outcome State Fault Refusal :=
  .next (s.sendRaw (cmdRRegister reg) (List.replicate n s.params.dummy))

/-- W_REGISTER: `Xfer([0x20 | reg] ++ v)` (R101). -/
def execWRegister (reg : BitVec 5) (bytes : List Byte) (s : State) : Host.Outcome State Fault Refusal :=
  .next (s.sendRaw (cmdWRegister reg) bytes)

/-- R_RX_PAYLOAD: `Xfer([0x61] ++ rep(DUMMY, L))` (R104). -/
def execRRxPayload (n : Nat) (s : State) : Host.Outcome State Fault Refusal :=
  .next (s.sendRaw cmdRRxPayload (List.replicate n s.params.dummy))

/-- W_TX_PAYLOAD: `Xfer([0xA0] ++ p)` (R105). -/
def execWTxPayload (bytes : List Byte) (s : State) : Host.Outcome State Fault Refusal :=
  .next (s.sendRaw cmdWTxPayload bytes)

/-- W_TX_PAYLOAD_NOACK: `Xfer([0xB0] ++ p)` (R105). -/
def execWTxPayloadNoack (bytes : List Byte) (s : State) : Host.Outcome State Fault Refusal :=
  .next (s.sendRaw cmdWTxPayloadNoack bytes)

/-- FLUSH_TX: `Xfer([0xE1])` (R107). -/
def execFlushTxCmd (s : State) : Host.Outcome State Fault Refusal := .next (s.sendRaw cmdFlushTx [])

/-- FLUSH_RX: `Xfer([0xE2])` (R108). -/
def execFlushRxCmd (s : State) : Host.Outcome State Fault Refusal := .next (s.sendRaw cmdFlushRx [])

/-- REUSE_TX_PL: `Xfer([0xE3])` (R110). -/
def execReuseTxPl (s : State) : Host.Outcome State Fault Refusal := .next (s.sendRaw cmdReuseTxPl [])

/-- ACTIVATE: `Xfer([0x50, data0])`; with data byte 0x73 it flips `features_active` (R25, R111; log 20). -/
def execActivate (data0 : Byte) (s : State) : Host.Outcome State Fault Refusal :=
  .next (s.sendRaw cmdActivate [data0])

/-- R_RX_PL_WID: `Xfer([0x60, DUMMY])` (R112). -/
def execRRxPlWid (s : State) : Host.Outcome State Fault Refusal := .next (s.sendRaw cmdRRxPlWid [s.params.dummy])

/-- W_ACK_PAYLOAD: `Xfer([0xA8 | P] ++ p)` (R113). -/
def execWAckPayload (pipe : BitVec 3) (bytes : List Byte) (s : State) : Host.Outcome State Fault Refusal :=
  .next (s.sendRaw (cmdWAckPayload pipe) bytes)

/-- NOP: `Xfer([0xFF])` (R114). -/
def execNop (s : State) : Host.Outcome State Fault Refusal := .next (s.sendRaw cmdNop [])

end Sys2Proof.Machine
end

