-- ==== Sys2Proof/Machine/Payload.lean ====
section
/-! DEFINITION. Payload transport and FIFO flush (43_payload_transport.md). -/

namespace Sys2Proof.Machine

/-! ## WRITE_TX_PAYLOAD (R180–R184) -/

/-- The status read before a payload write (R182): the register byte `r[1]` is tested. -/
def State.txStatusCall (s : State) : State :=
  s.regRead ChipReg.status.addr 1 fun r t => if txFull (byteAt r 1) then t.raise .fifoFull else t.advance

/-- The first step of WRITE_TX_PAYLOAD: its checks, in R180's order, then the status read. -/
def State.txBegin (len : BitVec 6) (s : State) : Host.Outcome State Fault Refusal :=
  if s.configured then
    match maxTx s.payloadMode with
    | none => .fault .payloadModeUnset
    | some max =>
      if max < len.setWidth 8 then .next (s.raise (.payloadTooLarge (len.setWidth 8) max))
      else if s.mode.isIn 0b0110 then .next s.txStatusCall
      else .next (s.raise (.invalidMode 0b0110 s.mode))
  else .next (s.raise (.configError .notConfigured))

/-- WRITE_TX_PAYLOAD (R180): the status read, then the payload write. -/
def execWriteTxPayload (noAck : Bool) (len : BitVec 6) (data : Payload) (s : State) :
    Host.Outcome State Fault Refusal :=
  if s.seq.k = 0 then s.txBegin len
  else if s.seq.k = 1 then .next (s.xfer (txCommand noAck :: data.front len.toNat) fun _ t => t.succeed id)
  else .fault .noSuchCall

/-! ## READ_RX_PAYLOAD (R185–R189) -/

/-- The request goes on to the payload read, unless the length is beyond the host's capacity (R185, R189 (a)). -/
def State.rxLength (cap : BitVec 6) (len : Byte) (s : State) : State :=
  if cap.setWidth 8 < len then s.raise (.payloadTooLarge len (cap.setWidth 8)) else s.advance

/-- The status read before a payload read (R186): the register byte `r[1]` is tested. Under Static the length is known. -/
def State.rxStatusCall (cap : BitVec 6) (s : State) : State :=
  s.regRead ChipReg.status.addr 1 fun r t =>
    if rxAvailable (byteAt r 1) then
      match t.payloadMode with
      | .static n => t.rxLength cap (n.setWidth 8)
      | .dynamic => t.advance
      | .unset => t.advance
    else t.raise .fifoEmpty

/-- The width read under Dynamic (R187): a width above 32 is an error, and nothing is flushed. -/
def State.rxWidthCall (cap : BitVec 6) (s : State) : State :=
  s.xfer [cmdRRxPlWid, s.params.dummy] fun w t =>
    if 32 < byteAt w 1 then t.raise (.payloadTooLarge (byteAt w 1) 32)
    else (t.setSeq { t.seq with width := byteAt w 1 }).rxLength cap (byteAt w 1)

/-- The payload read (R188). -/
def State.rxPayloadCall (len : Byte) (s : State) : State :=
  s.xfer (cmdRRxPayload :: List.replicate len.toNat s.params.dummy) fun r t =>
    t.succeed fun res => { res with len := len.setWidth 6, data := Payload.overlay (r.drop 1) res.data }

/-- READ_RX_PAYLOAD (R185): the status read; under Dynamic the width read; the payload read. -/
def execReadRxPayload (cap : BitVec 6) (s : State) : Host.Outcome State Fault Refusal :=
  if s.seq.k = 0 then
    if s.configured then .next (s.rxStatusCall cap) else .next (s.raise (.configError .notConfigured))
  else
    match s.payloadMode with
    | .static n => if s.seq.k = 1 then .next (s.rxPayloadCall (n.setWidth 8)) else .fault .noSuchCall
    | _ =>
      if s.seq.k = 1 then .next (s.rxWidthCall cap)
      else if s.seq.k = 2 then .next (s.rxPayloadCall s.seq.width)
      else .fault .noSuchCall

/-! ## The flushes (R190–R192) -/

/-- A flush: refused exactly in TransmitMode (R192), else the one transaction of its command. -/
def State.flush (cmd : Byte) (s : State) : State :=
  if s.mode.isIn 0b1011 then s.xfer [cmd] fun _ t => t.succeed id else s.raise (.invalidMode 0b1011 s.mode)

/-- FLUSH_TX (R190). -/
def execFlushTx (s : State) : Host.Outcome State Fault Refusal := .next (s.flush cmdFlushTx)

/-- FLUSH_RX (R191). -/
def execFlushRx (s : State) : Host.Outcome State Fault Refusal := .next (s.flush cmdFlushRx)

end Sys2Proof.Machine
end

