-- ==== Sys2Proof/Machine/Transition.lean ====
section
/-! DEFINITION. TRANSITION (42_mode_state_machine.md): the nine legal edges and their calls; everything else is refused. -/

namespace Sys2Proof.Machine

/-- The capability calls of the edge between two modes; none where the edge is illegal (R151–R160). -/
def edgeCalls (p : Params) : Mode → Mode → Option (List Call)
  | .powerDown, .standby => some [.config 0xFF cfgPwrUp, .wait p.tPd2Stby]
  | .standby, .transmit => some [.config (~~~cfgPrimRx) 0, .ce .high, .wait p.tCeHigh]
  | .standby, .receive => some [.config 0xFF cfgPrimRx, .ce .high]
  | .transmit, .standby => some [.ce .low]
  | .receive, .standby => some [.ce .low]
  | .standby, .powerDown => some [.config (~~~cfgPwrUp) 0]
  | .transmit, .powerDown => some [.ce .low, .config (~~~cfgPwrUp) 0]
  | .receive, .powerDown => some [.ce .low, .config (~~~cfgPwrUp) 0]
  | .powerDown, .powerDown => some [.config (~~~cfgPwrUp) 0]
  | .powerDown, .transmit => none
  | .powerDown, .receive => none
  | .standby, .standby => none
  | .transmit, .transmit => none
  | .transmit, .receive => none
  | .receive, .transmit => none
  | .receive, .receive => none

/-- TRANSITION to a mode (R150); `mode` is written as the last action of a fully successful edge (R162). -/
def State.transition (target : Mode) (s : State) : Host.Outcome State Fault Refusal :=
  if s.configured then
    match edgeCalls s.params s.mode target with
    | some calls => s.runCalls calls (State.setMode target)
    | none => .next (s.raise (.invalidTransition s.mode target))
  else .next (s.raise (.configError .notConfigured))

/-- TRANSITION PowerDown (R156–R159). -/
def execTransitionPowerDown (s : State) : Host.Outcome State Fault Refusal := s.transition .powerDown

/-- TRANSITION Standby (R151, R154, R155). -/
def execTransitionStandby (s : State) : Host.Outcome State Fault Refusal := s.transition .standby

/-- TRANSITION TransmitMode (R152). -/
def execTransitionTransmit (s : State) : Host.Outcome State Fault Refusal := s.transition .transmit

/-- TRANSITION ReceiveMode (R153). -/
def execTransitionReceive (s : State) : Host.Outcome State Fault Refusal := s.transition .receive

end Sys2Proof.Machine
end

