-- ==== Sys2Proof/Machine/Dispatch.lean ====
section
/-! DEFINITION. The dispatch: one arm per constructor of `Instr`, each one call of its meaning. For a request of several
capability calls the meaning is the one step that `seq.k` names (R17, R27). -/

namespace Sys2Proof.Machine

def exec (i : Instr) (s : State) : Host.Outcome State Fault Refusal :=
  match i with
  -- SPI commands
  | .rRegister reg n => Sys2Proof.Machine.execRRegister reg n s
  | .wRegister reg bytes => Sys2Proof.Machine.execWRegister reg bytes s
  | .rRxPayload n => Sys2Proof.Machine.execRRxPayload n s
  | .wTxPayload bytes => Sys2Proof.Machine.execWTxPayload bytes s
  | .wTxPayloadNoack bytes => Sys2Proof.Machine.execWTxPayloadNoack bytes s
  | .flushTxCmd => Sys2Proof.Machine.execFlushTxCmd s
  | .flushRxCmd => Sys2Proof.Machine.execFlushRxCmd s
  | .reuseTxPl => Sys2Proof.Machine.execReuseTxPl s
  | .activate data0 => Sys2Proof.Machine.execActivate data0 s
  | .rRxPlWid => Sys2Proof.Machine.execRRxPlWid s
  | .wAckPayload pipe bytes => Sys2Proof.Machine.execWAckPayload pipe bytes s
  | .nop => Sys2Proof.Machine.execNop s
  -- host requests
  | .readRegister addr => Sys2Proof.Machine.execReadRegister addr s
  | .writeRegister addr value => Sys2Proof.Machine.execWriteRegister addr value s
  | .sendCommand opcode len data => Sys2Proof.Machine.execSendCommand opcode len data s
  | .apply cfg => Sys2Proof.Machine.execApply cfg s
  | .transitionPowerDown => Sys2Proof.Machine.execTransitionPowerDown s
  | .transitionStandby => Sys2Proof.Machine.execTransitionStandby s
  | .transitionTransmit => Sys2Proof.Machine.execTransitionTransmit s
  | .transitionReceive => Sys2Proof.Machine.execTransitionReceive s
  | .writeTxPayload noAck len data => Sys2Proof.Machine.execWriteTxPayload noAck len data s
  | .readRxPayload cap => Sys2Proof.Machine.execReadRxPayload cap s
  | .flushTx => Sys2Proof.Machine.execFlushTx s
  | .flushRx => Sys2Proof.Machine.execFlushRx s

end Sys2Proof.Machine
end

