-- ==== Sys2Proof/Machine/Suspend.lean ====
section
/-! DEFINITION. Running what the sequencer holds, when its capability call completes in the step and when it is suspended (R17,
R27; log 25). -/

namespace Sys2Proof.Machine

/-- The step of what an offer or a held request decodes to: an instruction's meaning, or what the block does with what spells
none (R84, R89). -/
def execHeld (d : Except Reject Instr) (s : State) : Host.Outcome State Fault Refusal :=
  match d with
  | .ok i => exec i s
  | .error r => execRejected r s

/-- Whether a capability call was made from `s` to `t`: the trace grew (R92). -/
def State.callMade (s t : State) : Bool := s.env.events.length < t.env.events.length

/-- The outcome of a step from `s` whose call, if it makes one, is suspended: the call is in flight, nothing is known of its
answer, and the block is where it was, to be seen again at the next step (R17, R27: it "waits for it to complete"). A step
that makes no call ends as it does. -/
def State.hold (s : State) (o : Host.Outcome State Fault Refusal) : Host.Outcome State Fault Refusal :=
  match o with
  | .next t => .next (if s.callMade t then s else t)
  | .fault f => .fault f
  | .refused r => .refused r

/-- One step of what the sequencer holds. -/
def State.runHeld (suspended : Bool) (s : State) : Host.Outcome State Fault Refusal :=
  if suspended then s.hold (execHeld s.seq.held s) else execHeld s.seq.held s

end Sys2Proof.Machine
end

