-- ==== Sys2Proof/Machine/Step.lean ====
section
/-! DEFINITION. One step of the machine: the reset input wins (R217); else the block makes one call of the request it is
running or now takes (R8, R27), and that call completes in the step or is suspended (R17); else it is idle and does nothing
(R228). -/

namespace Sys2Proof.Machine

/-- One step. -/
def step (s : State) : Host.Outcome State Fault Refusal :=
  if s.resetLevel then .next s.takeReset
  else
    match s.sampled.fetch with
    | none => .next s.sampled
    | some t => t.runHeld s.suspended

/-- `s` with the instruction of an opcode-table word where the next step takes its instruction. -/
def State.withFetchWord (s : State) (nbits w : Nat) : State := s.present nbits w

end Sys2Proof.Machine
end

