-- ==== Sys2Proof/Machine/Pseudocode.lean ====
section
/-! DEFINITION. The requests as the spec writes them, each whole, from its first check to its result. `exec` makes one
capability call a step (R17, R27); running it until the request ends must come to the same, which is what makes the stepwise
form the request's meaning (R97: a request's pseudocode is run straight through). -/

namespace Sys2Proof.Machine

/-- Every call of a list, one after the other, then the completion (R97, R219: the first error ends it). -/
def State.performAll : List Call → (State → State) → State → State
  | [], done, s => (done s).succeed id
  | c :: cs, done, s => s.perform c (State.performAll cs done)

/-- APPLY (R121). -/
def pseudoApply (cfg : Configuration) (s : State) : State :=
  match validate cfg with
  | some reason => s.raise (.configError reason)
  | none =>
    if s.mode = .powerDown ∨ s.mode = .standby then
      let choices := s.applyChoices cfg
      State.performAll
        ((if s.ceShadow = .low then [] else [.ce .low]) ++ registerWrites s.params cfg choices.seq.activating ++
          [.config 0x73 (crcBits cfg.crc)])
        (State.applyDone cfg) choices
    else s.raise (.invalidMode 0b0011 s.mode)

/-- TRANSITION (R150). -/
def pseudoTransition (target : Mode) (s : State) : State :=
  if s.configured = false then s.raise (.configError .notConfigured)
  else
    match edgeCalls s.params s.mode target with
    | none => s.raise (.invalidTransition s.mode target)
    | some calls => State.performAll calls (State.setMode target) s

/-- WRITE_TX_PAYLOAD (R180). -/
def pseudoWriteTx (noAck : Bool) (len : BitVec 6) (data : Payload) (s : State) : Host.Outcome State Fault Refusal :=
  if s.configured = false then .next (s.raise (.configError .notConfigured))
  else
    match maxTx s.payloadMode with
    | none => .fault .payloadModeUnset
    | some max =>
      if max < len.setWidth 8 then .next (s.raise (.payloadTooLarge (len.setWidth 8) max))
      else if ¬(s.mode = .standby ∨ s.mode = .transmit) then .next (s.raise (.invalidMode 0b0110 s.mode))
      else .next <| s.regRead 0x07 1 fun r t =>
        if txFull (byteAt r 1) then t.raise .fifoFull
        else t.xfer ((if noAck then 0xB0 else 0xA0) :: data.front len.toNat) fun _ u => u.succeed id

/-- READ_RX_PAYLOAD (R185). -/
def pseudoReadRx (cap : BitVec 6) (s : State) : State :=
  if s.configured = false then s.raise (.configError .notConfigured)
  else
    s.regRead 0x07 1 fun r t =>
      if rxAvailable (byteAt r 1) = false then t.raise .fifoEmpty
      else
        let read (len : Byte) (u : State) : State :=
          if cap.setWidth 8 < len then u.raise (.payloadTooLarge len (cap.setWidth 8))
          else
            u.xfer (0x61 :: List.replicate len.toNat u.params.dummy) fun p v =>
              v.succeed fun res => { res with len := len.setWidth 6, data := Payload.overlay (p.drop 1) res.data }
        match t.payloadMode with
        | .static n => read (n.setWidth 8) t
        | _ =>
          t.xfer [0x60, t.params.dummy] fun w u =>
            if 32 < byteAt w 1 then u.raise (.payloadTooLarge (byteAt w 1) 32)
            else read (byteAt w 1) (u.setSeq { u.seq with width := byteAt w 1 })

/-- A request or an SPI command, whole. Those of one capability call are their one step. -/
def pseudocode (i : Instr) (s : State) : Host.Outcome State Fault Refusal :=
  match i with
  | .apply cfg => .next (pseudoApply cfg s)
  | .transitionPowerDown => .next (pseudoTransition .powerDown s)
  | .transitionStandby => .next (pseudoTransition .standby s)
  | .transitionTransmit => .next (pseudoTransition .transmit s)
  | .transitionReceive => .next (pseudoTransition .receive s)
  | .writeTxPayload noAck len data => pseudoWriteTx noAck len data s
  | .readRxPayload cap => .next (pseudoReadRx cap s)
  | .rRegister reg n => exec (.rRegister reg n) s
  | .wRegister reg bytes => exec (.wRegister reg bytes) s
  | .rRxPayload n => exec (.rRxPayload n) s
  | .wTxPayload bytes => exec (.wTxPayload bytes) s
  | .wTxPayloadNoack bytes => exec (.wTxPayloadNoack bytes) s
  | .flushTxCmd => exec .flushTxCmd s
  | .flushRxCmd => exec .flushRxCmd s
  | .reuseTxPl => exec .reuseTxPl s
  | .activate data0 => exec (.activate data0) s
  | .rRxPlWid => exec .rRxPlWid s
  | .wAckPayload pipe bytes => exec (.wAckPayload pipe bytes) s
  | .nop => exec .nop s
  | .readRegister addr => exec (.readRegister addr) s
  | .writeRegister addr value => exec (.writeRegister addr value) s
  | .sendCommand opcode len data => exec (.sendCommand opcode len data) s
  | .flushTx => exec .flushTx s
  | .flushRx => exec .flushRx s

/-- `exec` until the request ends, at most `n` steps of it (R27: the block's steps between taking a request and its end,
with no reset among them and no call suspended). -/
def runRequest (i : Instr) : Nat → State → Host.Outcome State Fault Refusal
  | 0, s => .next s
  | n + 1, s =>
    match exec i s with
    | .next t => if t.seq.busy then runRequest i n t else .next t
    | .fault r => .fault r
    | .refused r => .refused r

end Sys2Proof.Machine
end

