-- ==== Sys2Proof/Safety.lean ====
section
/-! DEFINITION. What counts as a safe run, in the terms the claims use: what the trace says of the chip's CONFIG, of the CE pin
and of the feature toggle; the position of the sequencer; the invariants between requests (R55); APPLY's checks as a list;
what a step leaves alone. -/

namespace Sys2Proof.Machine

/-! ## What the trace since the last reset says (R22, R25, R26), newest event first -/

/-- The CONFIG value the last transaction that wrote CONFIG and returned carried; the reset value when there is none. -/
def lastConfig (atReset : Byte) : List Event → Byte
  | [] => atReset
  | .reset _ :: _ => atReset
  | .xfer (cmd :: v :: _) _ :: es => if cmd = 0x20 then v else lastConfig atReset es
  | _ :: es => lastConfig atReset es

/-- The level last driven on CE: Unknown after a failed drive, and when none was made. -/
def lastCe : List Event → CeShadow
  | [] => .unknown
  | .reset _ :: _ => .unknown
  | .ce l :: _ => l.shadow
  | .ceError _ _ :: _ => .unknown
  | _ :: es => lastCe es

/-- Whether an odd number of ACTIVATE 0x73 transactions returned. -/
def featureParity : List Event → Bool
  | [] => false
  | .reset _ :: _ => false
  | .xfer (cmd :: v :: _) _ :: es => if cmd = 0x50 ∧ v = 0x73 then !featureParity es else featureParity es
  | _ :: es => featureParity es

/-- The three shadows say what the trace says (R22, R25, R26). -/
abbrev State.ShadowsTrackTrace (s : State) : Prop :=
  s.configShadow = lastConfig s.params.configReset s.env.events ∧ s.ceShadow = lastCe s.env.events ∧
    s.featuresActive = featureParity s.env.events

/-! ## The sequencer's position (R27, R216) -/

/-- What stands for a request that has completed a call and goes on: its checks have passed and hold, and `seq.k` names one
of its calls. A request of one call is never in that position. -/
def admitted (i : Instr) (s : State) : Bool :=
  match i with
  | .apply cfg =>
    validate cfg = none && s.mode.isIn 0b0011 && s.ceShadow = .low &&
      decide (s.seq.k.toNat < (applyCalls s.params cfg s.seq.ceDriven s.seq.activating).length)
  | .transitionPowerDown => s.configured && onEdge .powerDown s
  | .transitionStandby => s.configured && onEdge .standby s
  | .transitionTransmit => s.configured && onEdge .transmit s
  | .transitionReceive => s.configured && onEdge .receive s
  | .writeTxPayload _ len _ =>
    s.configured && s.mode.isIn 0b0110 && s.seq.k = 1 &&
      match maxTx s.payloadMode with
      | some max => len.setWidth 8 ≤ max
      | none => false
  | .readRxPayload cap =>
    s.configured &&
      match s.payloadMode with
      | .static n => s.seq.k = 1 && n ≤ cap
      | .dynamic => s.seq.k = 1 || (s.seq.k = 2 && s.seq.width ≤ 32 && s.seq.width ≤ cap.setWidth 8)
      | .unset => false
  | _ => false
where
  /-- `seq.k` names a call of a legal edge. -/
  onEdge (target : Mode) (s : State) : Bool :=
    match edgeCalls s.params s.mode target with
    | some calls => decide (s.seq.k.toNat < calls.length)
    | none => false

/-- Between two steps: the block is idle and `seq.k` is 0; or its first call is in flight (R17); or it is further on in a
request whose checks have passed. -/
def State.Placed (s : State) : Prop :=
  s.seq.k = 0 ∨ (s.seq.busy = true ∧ ∃ i, s.seq.held = .ok i ∧ admitted i s = true)

/-- The payload mode is a legal one, and a configured block has one (R23, R24, R134, R181). -/
abbrev State.PayloadModeOk (s : State) : Prop :=
  (∀ n, s.payloadMode = .static n → 1 ≤ n ∧ n ≤ 32) ∧ (s.configured = true → s.payloadMode ≠ .unset)

/-- The invariant every step keeps. -/
abbrev State.Inv (s : State) : Prop := s.Placed ∧ s.PayloadModeOk

/-! ## The invariants between requests (R55) -/

/-- R55 (a)–(e). -/
structure State.ModeOk (s : State) : Prop where
  a : s.mode = .powerDown → pwrUp s.configShadow = false
  b : s.mode ≠ .powerDown → pwrUp s.configShadow = true
  c₁ : s.mode = .transmit → primRx s.configShadow = false
  c₂ : s.mode = .receive → primRx s.configShadow = true
  d : s.configured = true → s.mode = .powerDown ∨ s.mode = .standby → s.ceShadow = .low
  e : s.mode = .transmit ∨ s.mode = .receive → s.ceShadow = .high

/-- An instruction that can write CONFIG without the mode state machine: the raw paths (R55, R106, R109). -/
def rawConfigWrite : Instr → Bool
  | .writeRegister addr _ => addr = 0
  | .sendCommand opcode len _ => opcode = 0x20 && 1 ≤ len
  | .wRegister reg _ => reg = 0
  | _ => false

/-! ## The checks of an APPLY -/

/-- R123's checks in its order, each as what makes it fail, with the reason code R212 gives it. -/
def validateChecks (cfg : Configuration) : List (Prop × BitVec 4) :=
  [(125 < cfg.channel.toNat, 1),
    (cfg.dataRate = 3, 6),
    (cfg.crc = 3, 7),
    (cfg.aw.toNat ∉ [3, 4, 5], 2),
    (∃ p : Fin 6, (cfg.pipe p).enabled = true ∧ (cfg.pipe p).addrLen ≠ cfg.aw, 3),
    ((∃ p : Fin 6, 2 ≤ p.val ∧ (cfg.pipe p).enabled = true) ∧ (cfg.pipe 1).addrLen ≠ cfg.aw, 3),
    (∃ p : Fin 6, 2 ≤ p.val ∧ (cfg.pipe p).enabled = true ∧
      ((cfg.pipe p).addr.toList.take cfg.aw.toNat).drop 1 ≠ ((cfg.pipe 1).addr.toList.take cfg.aw.toNat).drop 1, 8),
    (cfg.pmDynamic = false ∧ (cfg.pmStaticN.toNat = 0 ∨ 32 < cfg.pmStaticN.toNat), 4),
    (∀ p : Fin 6, (cfg.pipe p).enabled = false, 5)]

/-! ## What a step leaves alone -/

/-- The block's registers other than `seq` and `res`, and the parameters. -/
def State.regs (s : State) : Mode × Byte × PayloadMode × Bool × Bool × CeShadow × Params :=
  (s.mode, s.configShadow, s.payloadMode, s.configured, s.featuresActive, s.ceShadow, s.params)

/-- The request has ended: the sequencer is idle (R27). -/
abbrev State.Ended (t : State) : Prop := t.seq.busy = false ∧ t.seq.k = 0

/-- From `s` to `t` the trace grew by `evs` (newest first), and the host's side is as it was. -/
abbrev Traced (s t : State) (evs : List Event) : Prop :=
  t.env.events = evs ++ s.env.events ∧ t.env.requests = s.env.requests ∧ t.env.resetIn = s.env.resetIn ∧
    t.env.suspend = s.env.suspend

/-- A capability call without its answer (R92). -/
inductive Act where
  | send (tx : List Byte)
  | drive (l : Level)
  | pause (us : Nat)
  deriving DecidableEq, Repr

/-- The capability call an event records; none for a reset. -/
def Event.act? : Event → Option Act
  | .xfer tx _ => some (.send tx)
  | .xferError tx _ => some (.send tx)
  | .ce l => some (.drive l)
  | .ceError l _ => some (.drive l)
  | .wait asked _ => some (.pause asked)
  | .reset _ => none

/-- The capability calls of a trace, newest first. -/
def acts (events : List Event) : List Act := events.filterMap Event.act?

/-- What a call of a list puts out, when `config_shadow` holds `shadow`. -/
def Call.act (shadow : Byte) : Call → Act
  | .ce l => .drive l
  | .regWrite a v => .send (cmdWRegister a :: v)
  | .activate => .send [0x50, 0x73]
  | .config keep set => .send [0x20, configValue keep set shadow]
  | .wait us => .pause us

/-- The register writes among a list of calls (R137: ACTIVATE and CE are none). -/
def registerWritesOf (calls : List Call) : List Call :=
  calls.filter fun c =>
    match c with
    | .regWrite _ _ => true
    | .config _ _ => true
    | _ => false

/-- The command byte a call of a list sends; none for a CE drive and a wait. -/
def Call.commandByte? : Call → Option Byte
  | .ce _ => none
  | .regWrite a _ => some (cmdWRegister a)
  | .activate => some 0x50
  | .config _ _ => some 0x20
  | .wait _ => none

/-- The error codes R214 gives each request; an SPI command on its own can end as SEND_COMMAND can, but for the length. -/
def errorCodes : Instr → List (BitVec 4)
  | .readRegister _ => [1]
  | .writeRegister _ _ => [1]
  | .sendCommand _ _ _ => [4, 1]
  | .apply _ => [8, 5, 2, 1]
  | .transitionPowerDown => [8, 3, 1, 2]
  | .transitionStandby => [8, 3, 1, 2]
  | .transitionTransmit => [8, 3, 1, 2]
  | .transitionReceive => [8, 3, 1, 2]
  | .writeTxPayload _ _ _ => [8, 4, 5, 1, 7]
  | .readRxPayload _ => [8, 1, 6, 4]
  | .flushTx => [5, 1]
  | .flushRx => [5, 1]
  | _ => [1]

/-- The error codes of what an offer decodes to: a reserved request code's is IllegalRequest (R214); a frame that spells no
SPI command ends as SEND_COMMAND does (R115, log 11). -/
def heldErrorCodes : Except Reject Instr → List (BitVec 4)
  | .ok i => errorCodes i
  | .error (.reservedOp _) => [15]
  | .error (.undefinedCommand _) => [4, 1]
  | .error (.dataCount _ _) => [4, 1]

/-- The command byte and the data bytes of an SPI command (R100–R114); none for a host request. -/
def frameOf (dummy : Byte) : Instr → Option (Byte × List Byte)
  | .rRegister reg n => some (cmdRRegister reg, List.replicate n dummy)
  | .wRegister reg bytes => some (cmdWRegister reg, bytes)
  | .rRxPayload n => some (0x61, List.replicate n dummy)
  | .wTxPayload bytes => some (0xA0, bytes)
  | .wTxPayloadNoack bytes => some (0xB0, bytes)
  | .flushTxCmd => some (0xE1, [])
  | .flushRxCmd => some (0xE2, [])
  | .reuseTxPl => some (0xE3, [])
  | .activate data0 => some (0x50, [data0])
  | .rRxPlWid => some (0x60, [dummy])
  | .wAckPayload pipe bytes => some (cmdWAckPayload pipe, bytes)
  | .nop => some (0xFF, [])
  | _ => none

end Sys2Proof.Machine
end

