-- ==== Sys2Proof/Certificates/Slice0/Obligations.lean ====
section
/-! DEFINITION. The statements for the provers. Each docstring names the rules of spec/ it formalises. -/

open Sys2Proof Sys2Proof.Machine

/-! ## Encoding and decoding -/

/-- R81, R82, R87, R91: no bit of an encoding is dropped: decoding the encoding of a well-formed instruction gives it back,
whatever dummy byte a read clocks out. -/
def Obligations.DecodeEncodeRoundTrip : Prop :=
  ∀ (dummy : Byte) (i : Instr), i.wellFormed = true → (encodeWith dummy i).decode = .ok i

/-- R82, R86: what the decoder gives is a well-formed instruction. -/
def Obligations.DecodedInstructionsAreWellFormed : Prop :=
  ∀ (o : Offer) (i : Instr), o.decode = .ok i → i.wellFormed = true

/-- R87: bits 7, 15:13 and 31:30 of a header word are ignored. -/
def Obligations.ReservedHeaderBitsIgnored : Prop :=
  ∀ (h : BitVec 32) (data : Payload) (cfg : Configuration),
    (Offer.request h data cfg).decode = (Offer.request (h &&& 0x3FFF1F7F) data cfg).decode ∧
      (Offer.request h data cfg).record = (Offer.request (h &&& 0x3FFF1F7F) data cfg).record

/-- R81, R82, R86, R87: words of the spec's test vectors and rows, read as the instructions they stand for. What stands behind
an 8-bit word is the model's choice (log 22), but for ACTIVATE's data byte, which R82 fixes. -/
def Obligations.SpecWordsDecode : Prop :=
  decodeTableWord 32 0x00000500 = some (.readRegister 0x05) ∧
    decodeTableWord 32 0x000E0001 = some (.writeRegister 0x00 0x0E) ∧
    decodeTableWord 32 0x05300002 = some (.sendCommand 0x30 5 Payload.zero) ∧
    decodeTableWord 32 0x00000034 = some .transitionReceive ∧
    decodeTableWord 32 0xC0000094 = some .transitionStandby ∧
    decodeTableWord 32 0x20000045 = some (.writeTxPayload true 32 Payload.zero) ∧
    decodeTableWord 32 0x08000006 = some (.readRxPayload 8) ∧
    decodeTableWord 32 0x00000009 = none ∧
    decodeTableWord 8 0x50 = some (.activate 0x73) ∧
    decodeTableWord 8 0x25 = some (.wRegister 0x05 [0]) ∧
    decodeTableWord 8 0xAD = some (.wAckPayload 5 [0]) ∧
    decodeTableWord 8 0xAE = none

/-- R84: the undefined command bytes are exactly the ranges listed there, whatever data bytes follow. -/
def Obligations.UndefinedCommandBytes : Prop :=
  ∀ (cmd : Byte) (bs : List Byte),
    decodeFrame cmd bs = .error (.undefinedCommand cmd) ↔
      ((0x40 ≤ cmd ∧ cmd ≤ 0x4F) ∨ (0x51 ≤ cmd ∧ cmd ≤ 0x5F) ∨ (0x62 ≤ cmd ∧ cmd ≤ 0x9F) ∨ (0xA1 ≤ cmd ∧ cmd ≤ 0xA7) ∨
        (0xAE ≤ cmd ∧ cmd ≤ 0xAF) ∨ (0xB1 ≤ cmd ∧ cmd ≤ 0xE0) ∨ (0xE4 ≤ cmd ∧ cmd ≤ 0xFE))

/-! ## The step and the reset input -/

/-- R8, R17, R27, R228: with the reset input low, an idle block takes the request at its input and runs its first call; a busy
block runs the next call of its request and takes nothing; an idle block with nothing at its input does nothing. What runs is
the step of what is held: `exec` of the instruction it decodes to, or what the block does with what spells none. That taking a
request and its first call share a step is the model's choice (log 1). When the call is suspended (log 25), the step ends with the request held and the call in flight, and nothing else done; a step that makes no
call does not depend on the suspension. Taking a request sets `seq.busy`, `seq.k` and `res.status_valid`, holds the request in
`seq.req`, and changes no other register; what is then held decodes to what the offer decodes to. -/
def Obligations.StepRunsDecodedInstruction : Prop :=
  ∀ s : State, s.resetLevel = false →
    (∀ o rest, s.seq.busy = false → s.env.requests = o :: rest → s.suspended = false →
        step s = execHeld o.decode (s.sampled.accept o) ∧
          ∀ i, o.decode = .ok i → step s = exec i (s.sampled.accept o)) ∧
      (s.seq.busy = true → s.suspended = false →
        step s = execHeld s.seq.held s.sampled ∧ ∀ i, s.seq.held = .ok i → step s = exec i s.sampled) ∧
        (s.seq.busy = false → s.env.requests = [] → step s = .next s.sampled) ∧
          (∀ u t, s.suspended = true →
            (s.seq.busy = true ∧ u = s.sampled ∨
              s.seq.busy = false ∧ ∃ o rest, s.env.requests = o :: rest ∧ u = s.sampled.accept o) →
              execHeld u.seq.held u = .next t →
                (t.env.events = u.env.events → step s = .next t) ∧
                  ∀ ev, t.env.events = ev :: u.env.events → step s = .next u) ∧
            (∀ o, (s.sampled.accept o).seq.busy = true ∧ (s.sampled.accept o).seq.k = 0 ∧
              (s.sampled.accept o).seq.req = o.record ∧ (s.sampled.accept o).seq.held = o.decode ∧
              (s.sampled.accept o).res.statusValid = false ∧ (s.sampled.accept o).regs = s.regs ∧
              (s.sampled.accept o).env.requests = s.env.requests.tail ∧
              (s.sampled.accept o).env.events = s.env.events)

/-- R217, R240, R248: a reset wins over everything: every register returns to its reset value, no capability call is made, the
parameters and what the host presents stay; when a request was running, its call in flight is cut. The values of `seq.req` and
`res` are the model's (log 7), and whether the cut call reached the chip is a free value. -/
def Obligations.ResetInputWins : Prop :=
  ∀ s : State, s.resetLevel = true →
    ∃ t cut, step s = .next t ∧ t.mode = .powerDown ∧ t.configShadow = s.params.configReset ∧ t.payloadMode = .unset ∧
      t.configured = false ∧ t.featuresActive = false ∧ t.ceShadow = .unknown ∧ t.seq.busy = false ∧ t.seq.k = 0 ∧
      t.params = s.params ∧ Traced s.sampled t [.reset cut] ∧ (s.seq.busy = false → cut = none) ∧
      (s.seq.busy = true → ∃ reached, cut = some reached)

/-- R10, R11, R12, R30: what reset leaves, with every parameter at its default. -/
def Obligations.ResetStateValues : Prop :=
  State.reset.mode.code = 0 ∧ State.reset.configShadow = 0x08 ∧ State.reset.payloadMode.kind = 0 ∧
    State.reset.payloadMode.size = 0 ∧ State.reset.configured = false ∧ State.reset.featuresActive = false ∧
    State.reset.ceShadow.code = 2 ∧ State.reset.seq.busy = false ∧ State.reset.seq.k = 0 ∧
    State.reset.params.configReset = 0x08 ∧ State.reset.params.rfSetupBase = 0x06 ∧ State.reset.params.dummy = 0xFF ∧
    State.reset.params.featureDynamic = 0x05 ∧ State.reset.params.activateRequired = true ∧
    State.reset.params.chipVariant = .nRF24L01 ∧ State.reset.params.tPd2Stby = 1500 ∧ State.reset.params.tCeHigh = 10

/-- R89: a reserved request code 9..15 is taken, makes no capability call, writes nothing but `res` and ends with
IllegalRequest and `status_valid` = 0. -/
def Obligations.ReservedCodesAreIllegalRequests : Prop :=
  ∀ (s : State) (h : BitVec 32) (data : Payload) (cfg : Configuration) (rest : List Offer),
    s.resetLevel = false → s.seq.busy = false → s.env.requests = .request h data cfg :: rest →
      9 ≤ h.extractLsb' 0 4 →
        ∃ t, step s = .next t ∧ t.Ended ∧ t.res.err = 15 ∧ t.res.statusValid = false ∧ t.regs = s.regs ∧
          t.env.events = s.env.events ∧ t.env.requests = rest

/-- R84, R109, R115: a frame that spells no SPI command (its byte matches no row of R82, or it has a data count its row does
not have) ends as SEND_COMMAND of its bytes does: they go out unchanged, and the shadows follow as for any raw transaction; a
failing bus ends it with Transport(e); more than 32 data bytes are refused with no call. That a bare frame is taken at all, and
that a data count is never refused up to 32, are the model's choices (log 10, log 11). -/
def Obligations.UndefinedBytesGoOutUnchanged : Prop :=
  ∀ (s : State) (cmd : Byte) (len : BitVec 6) (data : Payload) (rest : List Offer) (r : Reject),
    s.resetLevel = false → s.seq.busy = false → s.env.requests = .frame cmd len data :: rest →
      (Offer.frame cmd len data).decode = .error r →
        (∀ rx, len ≤ 32 → s.suspended = false →
            (s.sampled.accept (.frame cmd len data)).spiReply (len.toNat + 1) = .ok rx →
              ∃ t, step s = .next t ∧ t.Ended ∧ t.res.err = 0 ∧ t.res.statusValid = true ∧ t.res.status = byteAt rx 0 ∧
                t.res.len = len ∧ t.res.data.front len.toNat = rx.drop 1 ∧
                t.regs =
                  ((s.setConfigShadow (if cmd = 0x20 ∧ 1 ≤ len then data[0] else s.configShadow)).setFeaturesActive
                    (if cmd = 0x50 ∧ 1 ≤ len ∧ data[0] = 0x73 then !s.featuresActive else s.featuresActive)).regs ∧
                t.env.requests = rest ∧ t.env.events = .xfer (cmd :: data.front len.toNat) rx :: s.env.events) ∧
          (∀ e, len ≤ 32 → s.suspended = false →
            (s.sampled.accept (.frame cmd len data)).spiReply (len.toNat + 1) = .error e →
              ∃ t, step s = .next t ∧ t.Ended ∧ t.res.err = 1 ∧ t.res.busErr = e ∧ t.res.statusValid = false ∧
                t.regs = s.regs ∧ t.env.requests = rest ∧
                t.env.events = .xferError (cmd :: data.front len.toNat) e :: s.env.events) ∧
          (32 < len →
            ∃ t, step s = .next t ∧ t.Ended ∧ t.res.err = 4 ∧ t.res.given = len.setWidth 8 ∧ t.res.max = 32 ∧
              t.res.statusValid = false ∧ t.regs = s.regs ∧ t.env.requests = rest ∧ t.env.events = s.env.events)

/-! ## The SPI commands -/

/-- R100, R101, R104, R105, R107, R108, R110–R114: each SPI command is the one transaction its rule gives. When the bus
answers, it ends with success, hands over the response, and writes no register but the two shadows a raw transaction
writes (R22, R25). That a command is a step of its own is the model's choice (log 10). -/
def Obligations.SpiCommandsComplete : Prop :=
  ∀ (i : Instr) (s : State) (cmd : Byte) (bs rx : List Byte),
    frameOf s.params.dummy i = some (cmd, bs) → s.spiReply (bs.length + 1) = .ok rx →
      ∃ t, exec i s = .next t ∧ t.Ended ∧ Traced s t [.xfer (cmd :: bs) rx] ∧
        t.res.err = 0 ∧ t.res.statusValid = true ∧ t.res.status = byteAt rx 0 ∧
        (bs.length ≤ 32 → t.res.len.toNat = bs.length ∧ t.res.data.front bs.length = rx.drop 1) ∧
        t.mode = s.mode ∧ t.payloadMode = s.payloadMode ∧ t.configured = s.configured ∧ t.ceShadow = s.ceShadow ∧
        t.params = s.params ∧
        t.configShadow = (if cmd = 0x20 ∧ bs ≠ [] then bs.headD 0 else s.configShadow) ∧
        t.featuresActive = (if cmd = 0x50 ∧ bs.head? = some 0x73 then !s.featuresActive else s.featuresActive)

/-- The model's choice (log 10): a well-formed SPI command on its own does what SEND_COMMAND (R109) of its byte and its data
does. -/
def Obligations.SpiCommandIsSendCommand : Prop :=
  ∀ (i : Instr) (s : State) (cmd : Byte) (bs : List Byte),
    i.wellFormed = true → frameOf s.params.dummy i = some (cmd, bs) →
      exec i s = exec (.sendCommand cmd (BitVec.ofNat 6 bs.length) (Payload.ofList bs)) s

/-! ## Raw register requests -/

/-- R103: READ_REGISTER sends `[addr, DUMMY]` and gives the register byte; when the bus fails it ends with Transport(e). No
register changes, in any mode. -/
def Obligations.ReadRegisterCompletes : Prop :=
  ∀ (addr : BitVec 5) (s : State),
    (∀ rx, s.spiReply 2 = .ok rx →
        ∃ t, exec (.readRegister addr) s = .next t ∧ t.Ended ∧ t.regs = s.regs ∧
          Traced s t [.xfer [addr.setWidth 8, s.params.dummy] rx] ∧
          t.res.err = 0 ∧ t.res.statusValid = true ∧ t.res.status = byteAt rx 0 ∧ t.res.value = byteAt rx 1) ∧
      (∀ e, s.spiReply 2 = .error e →
        ∃ t, exec (.readRegister addr) s = .next t ∧ t.Ended ∧ t.regs = s.regs ∧
          Traced s t [.xferError [addr.setWidth 8, s.params.dummy] e] ∧ t.res.err = 1 ∧ t.res.busErr = e)

/-- R106: WRITE_REGISTER sends `[0x20 | addr, value]`; a write of CONFIG that succeeds updates `config_shadow`; when the bus
fails it ends with Transport(e) and nothing changes. No other register changes, in any mode. -/
def Obligations.WriteRegisterCompletes : Prop :=
  ∀ (addr : BitVec 5) (value : Byte) (s : State),
    (∀ rx, s.spiReply 2 = .ok rx →
        ∃ t, exec (.writeRegister addr value) s = .next t ∧ t.Ended ∧
          t.regs = (if addr = 0 then s.setConfigShadow value else s).regs ∧
          Traced s t [.xfer [0x20 ||| addr.setWidth 8, value] rx] ∧
          t.res.err = 0 ∧ t.res.statusValid = true ∧ t.res.status = byteAt rx 0) ∧
      (∀ e, s.spiReply 2 = .error e →
        ∃ t, exec (.writeRegister addr value) s = .next t ∧ t.Ended ∧ t.regs = s.regs ∧
          Traced s t [.xferError [0x20 ||| addr.setWidth 8, value] e] ∧ t.res.err = 1 ∧ t.res.busErr = e)

/-- R109: SEND_COMMAND sends its byte and its `len` data bytes unchanged; CONFIG's W_REGISTER updates `config_shadow`,
ACTIVATE 0x73 flips `features_active`, and no other register changes; the response goes to `res`. When the bus fails it ends
with Transport(e) and no register changes. More than 32 data bytes are refused before any bus activity. -/
def Obligations.SendCommandCompletes : Prop :=
  ∀ (opcode : Byte) (len : BitVec 6) (data : Payload) (s : State),
    (∀ rx, len ≤ 32 → s.spiReply (len.toNat + 1) = .ok rx →
        ∃ t, exec (.sendCommand opcode len data) s = .next t ∧ t.Ended ∧
          Traced s t [.xfer (opcode :: data.front len.toNat) rx] ∧
          t.res.err = 0 ∧ t.res.statusValid = true ∧ t.res.status = byteAt rx 0 ∧ t.res.len = len ∧
          t.res.data.front len.toNat = rx.drop 1 ∧
          t.regs = ((s.setConfigShadow (if opcode = 0x20 ∧ 1 ≤ len then data[0] else s.configShadow)).setFeaturesActive
            (if opcode = 0x50 ∧ 1 ≤ len ∧ data[0] = 0x73 then !s.featuresActive else s.featuresActive)).regs) ∧
      (∀ e, len ≤ 32 → s.spiReply (len.toNat + 1) = .error e →
        ∃ t, exec (.sendCommand opcode len data) s = .next t ∧ t.Ended ∧ t.regs = s.regs ∧
          Traced s t [.xferError (opcode :: data.front len.toNat) e] ∧ t.res.err = 1 ∧ t.res.busErr = e) ∧
      (32 < len →
        ∃ t, exec (.sendCommand opcode len data) s = .next t ∧ t.Ended ∧ t.regs = s.regs ∧ Traced s t [] ∧
          t.res.err = 4 ∧ t.res.given = len.setWidth 8 ∧ t.res.max = 32)

/-! ## APPLY -/

/-- R123, R212: `Validate` gives no reason exactly when every condition holds; else the first check of R123's list that fails
gives its reason, with R212's code. -/
def Obligations.ValidateAccepts : Prop :=
  (∀ (cfg : Configuration) (n : Nat) (failed : Prop) (code : BitVec 4), (validateChecks cfg)[n]? = some (failed, code) →
      failed → (∀ m earlier c, m < n → (validateChecks cfg)[m]? = some (earlier, c) → ¬earlier) →
        (validate cfg).map ConfigReason.code = some code) ∧
  ∀ cfg : Configuration, validate cfg = none ↔
    (cfg.channel.toNat ≤ 125 ∧ cfg.dataRate ≠ 3 ∧ cfg.crc ≠ 3 ∧ 3 ≤ cfg.aw.toNat ∧ cfg.aw.toNat ≤ 5 ∧
      (∀ p : Fin 6, (cfg.pipe p).enabled = true → (cfg.pipe p).addrLen = cfg.aw) ∧
      (∀ p : Fin 6, 2 ≤ p.val → (cfg.pipe p).enabled = true →
        (cfg.pipe 1).addrLen = cfg.aw ∧
          ((cfg.pipe p).addr.toList.take cfg.aw.toNat).drop 1 = ((cfg.pipe 1).addr.toList.take cfg.aw.toNat).drop 1) ∧
      (cfg.pmDynamic = false → 1 ≤ cfg.pmStaticN.toNat ∧ cfg.pmStaticN.toNat ≤ 32) ∧
      ∃ p : Fin 6, (cfg.pipe p).enabled = true)

/-- R121, R122, R123: an invalid Configuration is refused in every mode with its reason, and a valid one in TransmitMode and
ReceiveMode with InvalidMode; neither makes a capability call or changes a register. -/
def Obligations.ApplyRefusals : Prop :=
  ∀ (cfg : Configuration) (s : State), s.seq.k = 0 →
    (∀ reason, validate cfg = some reason →
        ∃ t, exec (.apply cfg) s = .next t ∧ t.Ended ∧ t.regs = s.regs ∧ Traced s t [] ∧ t.res.err = 8 ∧
          t.res.reason = reason.code) ∧
      (validate cfg = none → s.mode = .transmit ∨ s.mode = .receive →
        ∃ t, exec (.apply cfg) s = .next t ∧ t.Ended ∧ t.regs = s.regs ∧ Traced s t [] ∧ t.res.err = 5 ∧
          t.res.required = 0b0011 ∧ t.res.actual = s.mode.code)

/-- R126–R130: the values and transactions of RF_CH, RF_SETUP, EN_AA, EN_RXADDR and SETUP_AW for a valid Configuration, in
R125's order (log 16, DEDUCED; the spec's decision D14); SETUP_AW, read back by R35, is the configured width. -/
def Obligations.RegisterValuesTranslate : Prop :=
  ∀ (p : Params) (cfg : Configuration) (activating : Bool), validate cfg = none →
    (∃ v, (registerWrites p cfg activating)[0]? = some (.regWrite 0x05 [v]) ∧ cmdWRegister 0x05 = 0x25 ∧
        v.toNat = cfg.channel.toNat ∧ v.toNat ≤ 125 ∧ v.getLsbD 7 = false) ∧
      ((registerWrites p cfg activating)[1]? =
          some (.regWrite 0x06
            [p.rfSetupBase ||| (if cfg.dataRate = 0 then 0x20 else if cfg.dataRate = 1 then 0x00 else 0x08)]) ∧
        cmdWRegister 0x06 = 0x26 ∧ Config.defaults.rfSetupBase = 0x06) ∧
      (∃ v, (registerWrites p cfg activating)[2]? = some (.regWrite 0x01 [v]) ∧ cmdWRegister 0x01 = 0x21 ∧
        (∀ q : Fin 6, v.getLsbD q.val = ((cfg.pipe q).enabled && (cfg.pipe q).autoAck)) ∧ v.extractLsb' 6 2 = 0) ∧
      (∃ v, (registerWrites p cfg activating)[3]? = some (.regWrite 0x02 [v]) ∧ cmdWRegister 0x02 = 0x22 ∧
        (∀ q : Fin 6, v.getLsbD q.val = (cfg.pipe q).enabled) ∧ v.extractLsb' 6 2 = 0) ∧
      ∃ v, (registerWrites p cfg activating)[4]? = some (.regWrite 0x03 [v]) ∧ cmdWRegister 0x03 = 0x23 ∧
        v.toNat = cfg.aw.toNat - 2 ∧ 1 ≤ v.toNat ∧ v.toNat ≤ 3 ∧ v.extractLsb' 2 6 = 0 ∧
        ∀ draw, addressWidth draw v = some cfg.aw.toNat

/-- R125, R131, R132: which address and payload sizing writes APPLY makes, and their values; TX_ADDR, SETUP_RETR and STATUS are
not written. And the order of all its writes before CONFIG (log 16): the command bytes come as R125's list has them, the RX
addresses and the RX_PW in pipe order, ACTIVATE before FEATURE before DYNPD. -/
def Obligations.AddressAndSizingWrites : Prop :=
  ∀ (p : Params) (cfg : Configuration) (activating : Bool) (q : Fin 6) (v : List Byte),
    (Call.regWrite (0x0A + BitVec.ofNat 5 q.val) v ∈ registerWrites p cfg activating ↔
        ((cfg.pipe q).enabled = true ∨ q = 1 ∧ ∃ r : Fin 6, 2 ≤ r.val ∧ (cfg.pipe r).enabled = true) ∧
          v = if q.val ≤ 1 then (cfg.pipe q).addr.toList.take cfg.aw.toNat else [(cfg.pipe q).addr[0]]) ∧
      (Call.regWrite (0x11 + BitVec.ofNat 5 q.val) v ∈ registerWrites p cfg activating ↔
        cfg.pmDynamic = false ∧ v = [if (cfg.pipe q).enabled then cfg.pmStaticN.setWidth 8 else 0]) ∧
      (Call.regWrite 0x1D v ∈ registerWrites p cfg activating ↔ cfg.pmDynamic = true ∧ v = [p.featureDynamic]) ∧
      (Call.regWrite 0x1C v ∈ registerWrites p cfg activating ↔
        cfg.pmDynamic = true ∧ ∃ m : Byte, v = [m] ∧ (∀ r : Fin 6, m.getLsbD r.val = (cfg.pipe r).enabled) ∧
          m.extractLsb' 6 2 = 0) ∧
      (Call.activate ∈ registerWrites p cfg activating ↔ cfg.pmDynamic = true ∧ activating = true) ∧
      Call.regWrite 0x10 v ∉ registerWrites p cfg activating ∧ Call.regWrite 0x04 v ∉ registerWrites p cfg activating ∧
      Call.regWrite 0x07 v ∉ registerWrites p cfg activating ∧
      List.Sublist ((registerWrites p cfg activating).map Call.commandByte?)
        ([0x25, 0x26, 0x21, 0x22, 0x23, 0x2A, 0x2B, 0x2C, 0x2D, 0x2E, 0x2F, 0x31, 0x32, 0x33, 0x34, 0x35, 0x36, 0x50, 0x3D,
          0x3C].map some)

/-- R38, R127: with the default base, RF_SETUP carries the configured data rate at 0 dBm, with no continuous carrier and the
PLL not locked, as an nRF24L01P reads it; an nRF24L01 reads 1 and 2 Mbps the same way (what it makes of 250 kbps is a free
value, log 31), and no high LNA current. -/
def Obligations.RfSetupCarriesDataRate : Prop :=
  ∀ (p : Params) (cfg : Configuration) (activating : Bool) (draw : Nat), p.rfSetupBase = 0x06 → validate cfg = none →
    ∃ v, (registerWrites p cfg activating)[1]? = some (.regWrite 0x06 [v]) ∧
      dataRateKbps .nRF24L01P draw v =
        some (if cfg.dataRate = 0 then 250 else if cfg.dataRate = 1 then 1000 else 2000) ∧
      (cfg.dataRate ≠ 0 → dataRateKbps .nRF24L01 draw v = dataRateKbps .nRF24L01P draw v) ∧ rfPowerDbm v = 0 ∧
      contWave .nRF24L01P v = some false ∧ pllLock v = false ∧ lnaHcurr .nRF24L01 v = some false

/-- U7 of 93_implementation_defined.md, R32–R50: with the default parameters, APPLY writes 0 to every bit that is reserved on
the nRF24L01P, in every one-byte register it writes, CONFIG included. -/
def Obligations.ReservedBitsWrittenZero : Prop :=
  ∀ (p : Params) (cfg : Configuration) (activating : Bool) (shadow : Byte), p.rfSetupBase = 0x06 →
    p.featureDynamic = 0x05 → validate cfg = none →
      (∀ (r : ChipReg) (v : Byte), Call.regWrite r.addr [v] ∈ registerWrites p cfg activating →
          v &&& r.reservedBits .nRF24L01P = 0) ∧
        configValue applyKeep (crcBits cfg.crc) shadow &&& ChipReg.reservedBits .nRF24L01P .config = 0

/-- R133: CONFIG is the last call and the only write of CONFIG; its value keeps MASK_*, PWR_UP and PRIM_RX, clears bit 7 and
takes the CRC bits from the Configuration. -/
def Obligations.ConfigIsWrittenLast : Prop :=
  ∀ (p : Params) (cfg : Configuration) (ceDriven activating : Bool) (shadow : Byte),
    (applyCalls p cfg ceDriven activating).getLast? = some (.config 0x73 (crcBits cfg.crc)) ∧
      (∀ c ∈ (applyCalls p cfg ceDriven activating).dropLast,
        (∀ keep set, c ≠ .config keep set) ∧ ∀ v, c ≠ .regWrite 0x00 v) ∧
      (configValue 0x73 (crcBits cfg.crc) shadow) &&& 0x73 = shadow &&& 0x73 ∧
      (configValue 0x73 (crcBits cfg.crc) shadow).getLsbD 7 = false ∧
      (validate cfg = none →
        (configValue 0x73 (crcBits cfg.crc) shadow).getLsbD 3 = decide (cfg.crc ≠ 0) ∧
          (configValue 0x73 (crcBits cfg.crc) shadow).getLsbD 2 = decide (cfg.crc = 2))

/-- R135: the number of capability calls of a successful APPLY, and its bound. -/
def Obligations.ApplyStepCount : Prop :=
  ∀ (p : Params) (cfg : Configuration) (ceDriven activating : Bool),
    (applyCalls p cfg ceDriven activating).length =
        ceDriven.toNat + 5 +
          ((cfg.pipe 0).enabled.toNat + ((cfg.pipe 1).enabled || upperEnabled cfg).toNat +
            (cfg.pipe 2).enabled.toNat + (cfg.pipe 3).enabled.toNat + (cfg.pipe 4).enabled.toNat +
            (cfg.pipe 5).enabled.toNat) +
          (if cfg.pmDynamic then 2 + activating.toNat else 6) + 1 ∧
      (applyCalls p cfg ceDriven activating).length ≤ 19

/-- R137: two APPLYs of one Configuration issue the same register writes, whatever the two choices of R124 and R132 were,
and leave the same `config_shadow`. -/
def Obligations.ApplyIsIdempotent : Prop :=
  ∀ (p : Params) (cfg : Configuration) (ce₁ ce₂ act₁ act₂ : Bool) (shadow : Byte),
    registerWritesOf (applyCalls p cfg ce₁ act₁) = registerWritesOf (applyCalls p cfg ce₂ act₂) ∧
      configValue 0x73 (crcBits cfg.crc) (configValue 0x73 (crcBits cfg.crc) shadow) =
        configValue 0x73 (crcBits cfg.crc) shadow

/-- R121, R124: the first step of an accepted APPLY: CE is driven low first, exactly when it is not known to be low, and when
that fails the request ends with Pin(e), `ce_shadow` Unknown and no register written; else RF_CH is written. -/
def Obligations.ApplyFirstCall : Prop :=
  ∀ (cfg : Configuration) (s : State), s.seq.k = 0 → validate cfg = none → s.mode = .powerDown ∨ s.mode = .standby →
    (s.ceShadow ≠ .low → s.pinReply = none →
        ∃ t, exec (.apply cfg) s = .next t ∧ t.seq.busy = s.seq.busy ∧ t.seq.k = 1 ∧ t.regs = (s.setCeShadow .low).regs ∧
          Traced s t [.ce .low]) ∧
      (∀ e, s.ceShadow ≠ .low → s.pinReply = some e →
        ∃ t, exec (.apply cfg) s = .next t ∧ t.Ended ∧ t.res.err = 2 ∧ t.res.pinErr = e ∧
          t.regs = (s.setCeShadow .unknown).regs ∧ Traced s t [.ceError .low e]) ∧
      (∀ rx, s.ceShadow = .low → s.spiReply 2 = .ok rx →
        ∃ t, exec (.apply cfg) s = .next t ∧ t.seq.busy = s.seq.busy ∧ t.seq.k = 1 ∧ t.regs = s.regs ∧
          Traced s t [.xfer [0x25, cfg.channel.setWidth 8] rx])

/-- R133, R134, R136: the last call of an APPLY writes CONFIG; when the bus answers, the request succeeds and only now
`config_shadow`, `payload_mode` and `configured` are written: a step that is not the last call, and a last call that fails,
leave them as they were. -/
def Obligations.ApplyLastCallCompletes : Prop :=
  (∀ (cfg : Configuration) (s t : State), exec (.apply cfg) s = .next t →
    (s.seq.k = 0 ∨ s.seq.k.toNat + 1 ≠ (applyCalls s.params cfg s.seq.ceDriven s.seq.activating).length ∨
      ∃ e, s.spiReply 2 = .error e) →
        t.configShadow = s.configShadow ∧ t.payloadMode = s.payloadMode ∧ t.configured = s.configured) ∧
  ∀ (cfg : Configuration) (s : State) (rx : List Byte), s.seq.k ≠ 0 →
    s.seq.k.toNat + 1 = (applyCalls s.params cfg s.seq.ceDriven s.seq.activating).length → s.spiReply 2 = .ok rx →
      ∃ t, exec (.apply cfg) s = .next t ∧ t.Ended ∧ t.res.err = 0 ∧ t.res.statusValid = true ∧
        t.res.status = byteAt rx 0 ∧
        Traced s t [.xfer [0x20, (s.configShadow &&& 0x73) ||| crcBits cfg.crc] rx] ∧
        t.configShadow = (s.configShadow &&& 0x73) ||| crcBits cfg.crc ∧ t.configured = true ∧
        t.payloadMode = (if cfg.pmDynamic then .dynamic else .static cfg.pmStaticN) ∧
        t.mode = s.mode ∧ t.featuresActive = s.featuresActive ∧ t.ceShadow = s.ceShadow ∧ t.params = s.params

/-- R121, R132, R134, R136: an accepted APPLY, run to its end, always ends. With success it has configured the block, CE is
low and the features are believed active when it had to activate them; with an error `config_shadow`, `payload_mode` and
`configured` are as they were, CE is low (or, when its drive failed, not known), and the features are believed active if they
were or the ACTIVATE returned. The mode never changes. -/
def Obligations.ApplyWholeEffect : Prop :=
  ∀ (cfg : Configuration) (s : State), s.seq.busy = true → s.seq.k = 0 → validate cfg = none →
    s.mode = .powerDown ∨ s.mode = .standby →
      ∃ t, runRequest (.apply cfg) 19 s = .next t ∧ t.Ended ∧ t.mode = s.mode ∧ t.params = s.params ∧
        (t.res.err = 0 →
          t.configShadow = (s.configShadow &&& 0x73) ||| crcBits cfg.crc ∧ t.configured = true ∧
            t.payloadMode = (if cfg.pmDynamic then .dynamic else .static cfg.pmStaticN) ∧ t.ceShadow = .low ∧
            t.featuresActive = (s.featuresActive || (cfg.pmDynamic && s.params.activateRequired))) ∧
        (t.res.err ≠ 0 →
          t.configShadow = s.configShadow ∧ t.configured = s.configured ∧ t.payloadMode = s.payloadMode ∧
            (t.res.err = 1 ∧ t.ceShadow = .low ∨ t.res.err = 2 ∧ s.ceShadow ≠ .low ∧ t.ceShadow = .unknown) ∧
            ∃ evs, t.env.events = evs ++ s.env.events ∧
              (t.featuresActive = true ↔ s.featuresActive = true ∨ ∃ rx, Event.xfer [0x50, 0x73] rx ∈ evs))

/-- R124, R125, R131, R132, R133: when an accepted APPLY succeeds, its capability calls are exactly those of the list
`applyCalls`, in its order. RegisterValuesTranslate, AddressAndSizingWrites and ConfigIsWrittenLast say of that list which calls
it has and in which order. -/
def Obligations.ApplyEmitsItsCallsInOrder : Prop :=
  ∀ (cfg : Configuration) (s t : State), s.seq.busy = true → s.seq.k = 0 → validate cfg = none →
    s.mode = .powerDown ∨ s.mode = .standby → runRequest (.apply cfg) 19 s = .next t → t.res.err = 0 →
      acts t.env.events =
        ((applyCalls s.params cfg (s.ceShadow != .low)
            (cfg.pmDynamic && s.params.activateRequired && !s.featuresActive)).map (Call.act s.configShadow)).reverse ++
          acts s.env.events

/-! ## TRANSITION -/

/-- R215: while `configured` = 0, TRANSITION, WRITE_TX_PAYLOAD and READ_RX_PAYLOAD end with NotConfigured before any other
check and before any capability call. -/
def Obligations.NotConfiguredRefusals : Prop :=
  ∀ (i : Instr) (s : State), s.configured = false → s.seq.k = 0 →
    (i = .transitionPowerDown ∨ i = .transitionStandby ∨ i = .transitionTransmit ∨ i = .transitionReceive ∨
      (∃ noAck len data, i = .writeTxPayload noAck len data) ∨ ∃ cap, i = .readRxPayload cap) →
        ∃ t, exec i s = .next t ∧ t.Ended ∧ t.regs = s.regs ∧ Traced s t [] ∧ t.res.err = 8 ∧ t.res.reason = 9

/-- R160: the legal edges are exactly the nine of R151–R159; every other pair raises InvalidTransition with no capability
call. -/
def Obligations.LegalEdgesAreExactlyNine : Prop :=
  ∀ (i : Instr) (target : Mode) (s : State), s.configured = true →
    (i, target) ∈ [(Instr.transitionPowerDown, Mode.powerDown), (.transitionStandby, .standby),
      (.transitionTransmit, .transmit), (.transitionReceive, .receive)] →
      ((edgeCalls s.params s.mode target).isSome = true ↔
        (s.mode, target) ∈ [(Mode.powerDown, Mode.powerDown), (.powerDown, .standby), (.standby, .powerDown),
          (.standby, .transmit), (.standby, .receive), (.transmit, .powerDown), (.transmit, .standby),
          (.receive, .powerDown), (.receive, .standby)]) ∧
      (edgeCalls s.params s.mode target = none →
        ∃ t, exec i s = .next t ∧ t.Ended ∧ t.regs = s.regs ∧ Traced s t [] ∧ t.res.err = 3 ∧
          t.res.fromMode = s.mode.code ∧ t.res.toMode = target.code)

/-- R151: PowerDown → Standby: CONFIG with PWR_UP set, then the wait, and only then `mode`; when the bus fails, nothing
changes. -/
def Obligations.PowerDownToStandby : Prop :=
  ∀ s : State, s.configured = true → s.mode = .powerDown →
    (∀ rx, s.seq.k = 0 → s.spiReply 2 = .ok rx →
        ∃ t, exec .transitionStandby s = .next t ∧ t.seq.busy = s.seq.busy ∧ t.seq.k = 1 ∧
          t.regs = (s.setConfigShadow (s.configShadow ||| 0x02)).regs ∧
          Traced s t [.xfer [0x20, s.configShadow ||| 0x02] rx]) ∧
      (∀ e, s.seq.k = 0 → s.spiReply 2 = .error e →
        ∃ t, exec .transitionStandby s = .next t ∧ t.Ended ∧ t.res.err = 1 ∧ t.res.busErr = e ∧ t.regs = s.regs ∧
          Traced s t [.xferError [0x20, s.configShadow ||| 0x02] e]) ∧
      (s.seq.k = 1 →
        ∃ t lasted, exec .transitionStandby s = .next t ∧ t.Ended ∧ t.res.err = 0 ∧
          t.regs = (s.setMode .standby).regs ∧ Traced s t [.wait s.params.tPd2Stby lasted] ∧
          s.params.tPd2Stby ≤ lasted)

/-- R152: Standby → TransmitMode: CONFIG with PRIM_RX clear, CE high, the wait, and only then `mode`; when the bus fails,
nothing changes, and when the pin fails, `ce_shadow` is Unknown and the mode stays. -/
def Obligations.StandbyToTransmit : Prop :=
  ∀ s : State, s.configured = true → s.mode = .standby →
    (∀ rx, s.seq.k = 0 → s.spiReply 2 = .ok rx →
        ∃ t, exec .transitionTransmit s = .next t ∧ t.seq.busy = s.seq.busy ∧ t.seq.k = 1 ∧
          t.regs = (s.setConfigShadow (s.configShadow &&& 0xFE)).regs ∧
          Traced s t [.xfer [0x20, s.configShadow &&& 0xFE] rx]) ∧
      (∀ e, s.seq.k = 0 → s.spiReply 2 = .error e →
        ∃ t, exec .transitionTransmit s = .next t ∧ t.Ended ∧ t.res.err = 1 ∧ t.res.busErr = e ∧ t.regs = s.regs ∧
          Traced s t [.xferError [0x20, s.configShadow &&& 0xFE] e]) ∧
      (s.seq.k = 1 → s.pinReply = none →
        ∃ t, exec .transitionTransmit s = .next t ∧ t.seq.busy = s.seq.busy ∧ t.seq.k = 2 ∧
          t.regs = (s.setCeShadow .high).regs ∧ Traced s t [.ce .high]) ∧
      (∀ e, s.seq.k = 1 → s.pinReply = some e →
        ∃ t, exec .transitionTransmit s = .next t ∧ t.Ended ∧ t.res.err = 2 ∧ t.res.pinErr = e ∧
          t.regs = (s.setCeShadow .unknown).regs ∧ Traced s t [.ceError .high e]) ∧
      (s.seq.k = 2 →
        ∃ t lasted, exec .transitionTransmit s = .next t ∧ t.Ended ∧ t.res.err = 0 ∧
          t.regs = (s.setMode .transmit).regs ∧ Traced s t [.wait s.params.tCeHigh lasted] ∧
          s.params.tCeHigh ≤ lasted)

/-- R153: Standby → ReceiveMode: CONFIG with PRIM_RX set, CE high, no wait; errors as in R152. -/
def Obligations.StandbyToReceive : Prop :=
  ∀ s : State, s.configured = true → s.mode = .standby →
    (∀ rx, s.seq.k = 0 → s.spiReply 2 = .ok rx →
        ∃ t, exec .transitionReceive s = .next t ∧ t.seq.busy = s.seq.busy ∧ t.seq.k = 1 ∧
          t.regs = (s.setConfigShadow (s.configShadow ||| 0x01)).regs ∧
          Traced s t [.xfer [0x20, s.configShadow ||| 0x01] rx]) ∧
      (∀ e, s.seq.k = 0 → s.spiReply 2 = .error e →
        ∃ t, exec .transitionReceive s = .next t ∧ t.Ended ∧ t.res.err = 1 ∧ t.res.busErr = e ∧ t.regs = s.regs ∧
          Traced s t [.xferError [0x20, s.configShadow ||| 0x01] e]) ∧
      (∀ e, s.seq.k = 1 → s.pinReply = some e →
        ∃ t, exec .transitionReceive s = .next t ∧ t.Ended ∧ t.res.err = 2 ∧ t.res.pinErr = e ∧
          t.regs = (s.setCeShadow .unknown).regs ∧ Traced s t [.ceError .high e]) ∧
      (s.seq.k = 1 → s.pinReply = none →
        ∃ t, exec .transitionReceive s = .next t ∧ t.Ended ∧ t.res.err = 0 ∧
          t.regs = ((s.setCeShadow .high).setMode .receive).regs ∧ Traced s t [.ce .high])

/-- R154, R155: TransmitMode or ReceiveMode → Standby: CE low, no transaction, `config_shadow` unchanged; when the pin
fails, `ce_shadow` is Unknown and the mode stays. -/
def Obligations.ActiveToStandby : Prop :=
  ∀ s : State, s.configured = true → s.mode = .transmit ∨ s.mode = .receive → s.seq.k = 0 →
    (s.pinReply = none →
        ∃ t, exec .transitionStandby s = .next t ∧ t.Ended ∧ t.res.err = 0 ∧
          t.regs = ((s.setCeShadow .low).setMode .standby).regs ∧ Traced s t [.ce .low]) ∧
      (∀ e, s.pinReply = some e →
        ∃ t, exec .transitionStandby s = .next t ∧ t.Ended ∧ t.res.err = 2 ∧ t.res.pinErr = e ∧
          t.regs = (s.setCeShadow .unknown).regs ∧ Traced s t [.ceError .low e])

/-- R156, R159: Standby or PowerDown → PowerDown: CONFIG with PWR_UP clear; when the bus fails, nothing changes. -/
def Obligations.StandbyOrPowerDownToPowerDown : Prop :=
  ∀ s : State, s.configured = true → s.mode = .standby ∨ s.mode = .powerDown → s.seq.k = 0 →
    (∀ rx, s.spiReply 2 = .ok rx →
        ∃ t, exec .transitionPowerDown s = .next t ∧ t.Ended ∧ t.res.err = 0 ∧
          t.regs = ((s.setConfigShadow (s.configShadow &&& 0xFD)).setMode .powerDown).regs ∧
          Traced s t [.xfer [0x20, s.configShadow &&& 0xFD] rx]) ∧
      (∀ e, s.spiReply 2 = .error e →
        ∃ t, exec .transitionPowerDown s = .next t ∧ t.Ended ∧ t.res.err = 1 ∧ t.res.busErr = e ∧ t.regs = s.regs ∧
          Traced s t [.xferError [0x20, s.configShadow &&& 0xFD] e])

/-- R157, R158: TransmitMode or ReceiveMode → PowerDown: CE low first, then CONFIG with PWR_UP clear; when the pin fails,
`ce_shadow` is Unknown, nothing is written and the mode stays; when the bus fails, CE is already low and the mode stays. -/
def Obligations.ActiveToPowerDown : Prop :=
  ∀ s : State, s.configured = true → s.mode = .transmit ∨ s.mode = .receive →
    (s.seq.k = 0 → s.pinReply = none →
        ∃ t, exec .transitionPowerDown s = .next t ∧ t.seq.busy = s.seq.busy ∧ t.seq.k = 1 ∧
          t.regs = (s.setCeShadow .low).regs ∧ Traced s t [.ce .low]) ∧
      (∀ e, s.seq.k = 0 → s.pinReply = some e →
        ∃ t, exec .transitionPowerDown s = .next t ∧ t.Ended ∧ t.res.err = 2 ∧ t.res.pinErr = e ∧
          t.regs = (s.setCeShadow .unknown).regs ∧ Traced s t [.ceError .low e]) ∧
      (∀ rx, s.seq.k = 1 → s.spiReply 2 = .ok rx →
        ∃ t, exec .transitionPowerDown s = .next t ∧ t.Ended ∧ t.res.err = 0 ∧
          t.regs = ((s.setConfigShadow (s.configShadow &&& 0xFD)).setMode .powerDown).regs ∧
          Traced s t [.xfer [0x20, s.configShadow &&& 0xFD] rx]) ∧
      (∀ e, s.seq.k = 1 → s.spiReply 2 = .error e →
        ∃ t, exec .transitionPowerDown s = .next t ∧ t.Ended ∧ t.res.err = 1 ∧ t.res.busErr = e ∧ t.regs = s.regs ∧
          Traced s t [.xferError [0x20, s.configShadow &&& 0xFD] e])

/-- R162, 42_mode_state_machine.md: a step of a transition keeps every CONFIG bit but PWR_UP and PRIM_RX, and an edge that
ends with an error leaves the mode at its "from" value. -/
def Obligations.TransitionKeepsOtherBits : Prop :=
  ∀ (i : Instr) (s t : State),
    i ∈ [Instr.transitionPowerDown, .transitionStandby, .transitionTransmit, .transitionReceive] →
      exec i s = .next t →
        t.configShadow &&& 0xFC = s.configShadow &&& 0xFC ∧ t.payloadMode = s.payloadMode ∧
          t.configured = s.configured ∧ t.featuresActive = s.featuresActive ∧
          (s.seq.busy = true → t.seq.busy = true ∨ t.res.err ≠ 0 → t.mode = s.mode)

/-- R163 (a), (b), R246, R247: with the bounds of R10, a transition to Standby from PowerDown that succeeds is the CONFIG write
with PWR_UP set and then a wait of at least 1500 µs, and one to TransmitMode the CONFIG write with PRIM_RX clear, CE high and
then a wait of at least 10 µs; the mode is written only then. -/
def Obligations.SettleTimesAreKept : Prop :=
  ∀ s t : State, Config.boundsOk s.params = true → s.configured = true → s.seq.busy = true → s.seq.k = 0 →
    (s.mode = .powerDown → runRequest .transitionStandby 19 s = .next t → t.res.err = 0 →
        ∃ asked lasted rx,
          t.env.events = .wait asked lasted :: .xfer [0x20, s.configShadow ||| 0x02] rx :: s.env.events ∧
            1500 ≤ lasted ∧ t.mode = .standby) ∧
      (s.mode = .standby → runRequest .transitionTransmit 19 s = .next t → t.res.err = 0 →
        ∃ asked lasted rx,
          t.env.events =
              .wait asked lasted :: .ce .high :: .xfer [0x20, s.configShadow &&& 0xFE] rx :: s.env.events ∧
            10 ≤ lasted ∧ t.mode = .transmit)

/-! ## Payload transport and the flushes -/

/-- R180, R181, R184: WRITE_TX_PAYLOAD's checks, in their order: a payload above the limit is refused in every mode, one
within it is refused in PowerDown and ReceiveMode; neither makes a capability call. -/
def Obligations.WriteTxRefusals : Prop :=
  ∀ (noAck : Bool) (len : BitVec 6) (data : Payload) (s : State) (limit : Nat), s.configured = true → s.seq.k = 0 →
    (s.payloadMode = .dynamic ∧ limit = 32 ∨ ∃ n, s.payloadMode = .static n ∧ limit = n.toNat) →
      (limit < len.toNat →
          ∃ t, exec (.writeTxPayload noAck len data) s = .next t ∧ t.Ended ∧ t.regs = s.regs ∧ Traced s t [] ∧
            t.res.err = 4 ∧ t.res.given.toNat = len.toNat ∧ t.res.max.toNat = limit) ∧
        (len.toNat ≤ limit → s.mode = .powerDown ∨ s.mode = .receive →
          ∃ t, exec (.writeTxPayload noAck len data) s = .next t ∧ t.Ended ∧ t.regs = s.regs ∧ Traced s t [] ∧
            t.res.err = 5 ∧ t.res.required = 0b0110 ∧ t.res.actual = s.mode.code)

/-- R180, R182: the status read of WRITE_TX_PAYLOAD: TX_FULL in the register byte ends the request with FifoFull, else it goes
on; no register changes. -/
def Obligations.WriteTxStatusRead : Prop :=
  ∀ (noAck : Bool) (len : BitVec 6) (data : Payload) (s : State) (limit : Nat) (rx : List Byte),
    s.configured = true → s.seq.k = 0 →
    (s.payloadMode = .dynamic ∧ limit = 32 ∨ ∃ n, s.payloadMode = .static n ∧ limit = n.toNat) →
      len.toNat ≤ limit → s.mode = .standby ∨ s.mode = .transmit → s.spiReply 2 = .ok rx →
        ∃ t, exec (.writeTxPayload noAck len data) s = .next t ∧ t.regs = s.regs ∧
          Traced s t [.xfer [0x07, s.params.dummy] rx] ∧
          ((byteAt rx 1).getLsbD 0 = true → t.Ended ∧ t.res.err = 7) ∧
          ((byteAt rx 1).getLsbD 0 = false → t.seq.busy = s.seq.busy ∧ t.seq.k = 1)

/-- R180, R183: the payload write: W_TX_PAYLOAD or W_TX_PAYLOAD_NOACK with the `len` bytes unchanged; no register changes. -/
def Obligations.WriteTxCompletes : Prop :=
  ∀ (noAck : Bool) (len : BitVec 6) (data : Payload) (s : State) (rx : List Byte), s.seq.k = 1 →
    s.spiReply ((data.front len.toNat).length + 1) = .ok rx →
      ∃ t, exec (.writeTxPayload noAck len data) s = .next t ∧ t.Ended ∧ t.res.err = 0 ∧ t.res.statusValid = true ∧
        t.res.status = byteAt rx 0 ∧ t.regs = s.regs ∧
        Traced s t [.xfer ((if noAck then 0xB0 else 0xA0) :: data.front len.toNat) rx]

/-- R185, R186, R187, R189 (a): the status read of READ_RX_PAYLOAD, in every mode: no payload available ends it with
FifoEmpty; under Static(N) a host buffer below N ends it with PayloadTooLarge; else it goes on. -/
def Obligations.ReadRxStatusRead : Prop :=
  ∀ (cap : BitVec 6) (s : State) (rx : List Byte), s.configured = true → s.seq.k = 0 → s.spiReply 2 = .ok rx →
    ∃ t, exec (.readRxPayload cap) s = .next t ∧ t.regs = s.regs ∧ Traced s t [.xfer [0x07, s.params.dummy] rx] ∧
      (5 < (byteAt rx 1).extractLsb' 1 3 → t.Ended ∧ t.res.err = 6) ∧
      ((byteAt rx 1).extractLsb' 1 3 ≤ 5 →
        (∀ n, s.payloadMode = .static n →
            (cap < n → t.Ended ∧ t.res.err = 4 ∧ t.res.given = n.setWidth 8 ∧ t.res.max = cap.setWidth 8) ∧
              (n ≤ cap → t.seq.busy = s.seq.busy ∧ t.seq.k = 1)) ∧
          (s.payloadMode = .dynamic → t.seq.busy = s.seq.busy ∧ t.seq.k = 1))

/-- R185, R187, R189 (a): the width read of READ_RX_PAYLOAD under Dynamic: a width above 32, or above the host's capacity,
ends it with PayloadTooLarge and nothing is flushed; else the width is the length of the read that follows. -/
def Obligations.ReadRxWidthRead : Prop :=
  ∀ (cap : BitVec 6) (s : State) (rx : List Byte), s.payloadMode = .dynamic → s.seq.k = 1 → s.spiReply 2 = .ok rx →
    ∃ t, exec (.readRxPayload cap) s = .next t ∧ t.regs = s.regs ∧ Traced s t [.xfer [0x60, s.params.dummy] rx] ∧
      (32 < byteAt rx 1 → t.Ended ∧ t.res.err = 4 ∧ t.res.given = byteAt rx 1 ∧ t.res.max = 32) ∧
      (byteAt rx 1 ≤ 32 → cap.setWidth 8 < byteAt rx 1 →
        t.Ended ∧ t.res.err = 4 ∧ t.res.given = byteAt rx 1 ∧ t.res.max = cap.setWidth 8) ∧
      (byteAt rx 1 ≤ 32 → byteAt rx 1 ≤ cap.setWidth 8 →
        t.seq.busy = s.seq.busy ∧ t.seq.k = 2 ∧ t.seq.width = byteAt rx 1)

/-- R185, R188: the payload read: under Static(N) of N bytes, under Dynamic of the width read before; the bytes and their
count go to `res`, and no register changes. -/
def Obligations.ReadRxCompletes : Prop :=
  ∀ (cap : BitVec 6) (s : State) (len : Byte) (rx : List Byte), len ≤ 32 →
    ((∃ n, s.payloadMode = .static n ∧ s.seq.k = 1 ∧ len = n.setWidth 8) ∨
      s.payloadMode = .dynamic ∧ s.seq.k = 2 ∧ len = s.seq.width) →
        s.spiReply (len.toNat + 1) = .ok rx →
          ∃ t, exec (.readRxPayload cap) s = .next t ∧ t.Ended ∧ t.res.err = 0 ∧ t.res.statusValid = true ∧
            t.res.status = byteAt rx 0 ∧ t.res.len.toNat = len.toNat ∧ t.res.data.front len.toNat = rx.drop 1 ∧
            t.regs = s.regs ∧ Traced s t [.xfer (0x61 :: List.replicate len.toNat s.params.dummy) rx]

/-- R190, R191, R192: a flush is refused exactly in TransmitMode, with no capability call; in every other mode it is its one
transaction, and ends with Transport(e) when the bus fails. -/
def Obligations.FlushesComplete : Prop :=
  ∀ (i : Instr) (cmd : Byte) (s : State), (i, cmd) ∈ [(Instr.flushTx, (0xE1 : Byte)), (.flushRx, 0xE2)] →
    (s.mode = .transmit →
        ∃ t, exec i s = .next t ∧ t.Ended ∧ t.regs = s.regs ∧ Traced s t [] ∧ t.res.err = 5 ∧
          t.res.required = 0b1011 ∧ t.res.actual = 2) ∧
      (∀ rx, s.mode ≠ .transmit → s.spiReply 1 = .ok rx →
        ∃ t, exec i s = .next t ∧ t.Ended ∧ t.regs = s.regs ∧ Traced s t [.xfer [cmd] rx] ∧ t.res.err = 0 ∧
          t.res.statusValid = true ∧ t.res.status = byteAt rx 0) ∧
      (∀ e, s.mode ≠ .transmit → s.spiReply 1 = .error e →
        ∃ t, exec i s = .next t ∧ t.Ended ∧ t.regs = s.regs ∧ Traced s t [.xferError [cmd] e] ∧ t.res.err = 1 ∧
          t.res.busErr = e)

/-- R41: the three predicates of a status byte. -/
def Obligations.StatusPredicates : Prop :=
  ∀ st : Byte, txFull st = st.getLsbD 0 ∧ rxPipe st = st.extractLsb' 1 3 ∧
    (rxAvailable st = false ↔ st.extractLsb' 1 3 = 0b110 ∨ st.extractLsb' 1 3 = 0b111)

/-! ## Rules about the whole machine -/

/-- R213, R219: a call that fails ends the request with its error, passed through unchanged; nothing is retried and nothing is
rolled back. R102, R219, R26: no register, no status byte and no valid bit changes, but for `ce_shadow`, which is Unknown after
a CE drive that failed. It speaks also of bare SPI commands (log 10) and of frames that spell none (log 11), which are the
model's choices. -/
def Obligations.FailedCallsEndRequests : Prop :=
  ∀ (d : Except Reject Instr) (s t : State), execHeld d s = .next t →
    (∀ tx e, t.env.events = .xferError tx e :: s.env.events →
        t.Ended ∧ t.res.err = 1 ∧ t.res.busErr = e ∧ t.regs = s.regs ∧ t.res.statusValid = s.res.statusValid ∧
          t.res.status = s.res.status) ∧
      (∀ l e, t.env.events = .ceError l e :: s.env.events →
        t.Ended ∧ t.res.err = 2 ∧ t.res.pinErr = e ∧ t.regs = (s.setCeShadow .unknown).regs)

/-- R216, R218: InvalidTransition, InvalidMode and ConfigError, and PayloadTooLarge but for the read side's, are raised before
the request's first capability call, and nothing changes but `res` and the sequencer. The position premise rules out states
that no run reaches (log 29; PositionInvariantKept). -/
def Obligations.ProtocolRefusalsTouchNothing : Prop :=
  ∀ (i : Instr) (s t : State), s.seq.busy = true → (s.seq.k = 0 ∨ admitted i s = true) → exec i s = .next t →
    t.seq.busy = false →
      (t.res.err = 3 ∨ t.res.err = 5 ∨ t.res.err = 8 ∨ t.res.err = 4 ∧ ∀ cap, i ≠ .readRxPayload cap) →
        s.seq.k = 0 ∧ ∃ e, t = s.raise e

/-- R214: each request ends with success or with one of the codes its row lists; a reserved request code ends with
IllegalRequest, and a frame that spells no SPI command as SEND_COMMAND can (log 11). -/
def Obligations.ErrorCodesPerRequest : Prop :=
  ∀ (d : Except Reject Instr) (s t : State), s.seq.busy = true → execHeld d s = .next t → t.seq.busy = false →
    ((∀ op, d ≠ .error (.reservedOp op)) ∧ t.res.err = 0) ∨ t.res.err ∈ heldErrorCodes d

/-- R17, R27, R71: a step completes at most one capability call, and adds at most one event to the trace. R10–R12, log 5: it
writes no parameter. -/
def Obligations.OneCallPerStep : Prop :=
  ∀ s t : State, step s = .next t →
    (t.env.events = s.env.events ∨ ∃ ev, t.env.events = ev :: s.env.events) ∧ t.params = s.params

/-- R21: only a transition writes `mode`, and only to its target; a reset apart. -/
def Obligations.OnlyTransitionsWriteMode : Prop :=
  ∀ (d : Except Reject Instr) (s t : State), execHeld d s = .next t →
    t.mode = s.mode ∨ ∃ i, d = .ok i ∧ (i, t.mode) ∈ [(Instr.transitionPowerDown, Mode.powerDown),
      (.transitionStandby, .standby), (.transitionTransmit, .transmit), (.transitionReceive, .receive)]

/-- R23, R24: only APPLY writes `payload_mode` and `configured`, both at its success, and nothing clears `configured`. -/
def Obligations.OnlyApplyConfigures : Prop :=
  ∀ (d : Except Reject Instr) (s t : State), execHeld d s = .next t →
    (t.payloadMode = s.payloadMode ∧ t.configured = s.configured) ∨
      ∃ cfg, d = .ok (.apply cfg) ∧ t.Ended ∧ t.res.err = 0 ∧ t.configured = true ∧
        t.payloadMode = appliedPayloadMode cfg

/-- R22, R25, R26: the invariant that every step keeps: `config_shadow`, `ce_shadow` and `features_active` are what the trace
since the last reset says of CONFIG, of the CE pin and of the feature toggle. -/
def Obligations.ShadowsTrackTraceKept : Prop :=
  ∀ s t : State, s.ShadowsTrackTrace → step s = .next t → t.ShadowsTrackTrace

/-- R27, R23, R24, R216: the invariant that every step keeps, also when its call is suspended: `seq.k` = 0 (the block is idle, or
the first call of its request is in flight), or the block is further on in a request whose checks have passed and whose next
call `seq.k` names; the payload mode is a legal one, and set when the block is configured. -/
def Obligations.PositionInvariantKept : Prop :=
  ∀ s t : State, s.Inv → step s = .next t → t.Inv

/-- R30: both invariants hold at reset, and so do those of R55. -/
def Obligations.InvariantsAtReset : Prop :=
  State.reset.Inv ∧ State.reset.ShadowsTrackTrace ∧ State.reset.ModeOk

/-- R220, log 14: the block never stops: from every state of the invariant, every run goes on for as long as it is asked to,
whatever the host presents and whatever the capabilities answer. -/
def Obligations.RunsNeverStop : Prop :=
  ∀ (s : State) (n : Nat), s.Inv → ∃ t, Sys2Proof.core.run n s = .next t ∧ State.Inv t

/-- R17, R27, R97: run call by call, every request comes to what its pseudocode gives, in at most 19 calls. -/
def Obligations.RequestsRunTheirPseudocode : Prop :=
  ∀ (i : Instr) (s : State), s.seq.busy = true → s.seq.k = 0 → runRequest i 19 s = pseudocode i s

/-- R27, R97: every request ends, after at most 19 capability calls. -/
def Obligations.EveryRequestEnds : Prop :=
  ∀ (i : Instr) (s : State), s.PayloadModeOk → s.seq.busy = true → s.seq.k = 0 →
    ∃ t, runRequest i 19 s = .next t ∧ t.Ended

/-- R55: a request that succeeds keeps the invariants between requests, unless it writes CONFIG by a raw path. -/
def Obligations.ModeInvariantsKept : Prop :=
  ∀ (i : Instr) (s t : State), s.ModeOk → s.seq.busy = true → s.seq.k = 0 → rawConfigWrite i = false →
    runRequest i 19 s = .next t → t.res.err = 0 → t.ModeOk

/-- R53, R55: under those invariants, for a configured block, the chip's operating mode (when its CONFIG and CE are what the
shadows say) is the one the logical mode corresponds to, whatever its TX FIFO holds. -/
def Obligations.ModeMatchesChip : Prop :=
  ∀ (s : State) (ce : Level) (txEmpty : Bool), s.ModeOk → s.configured = true → s.ceShadow = ce.shadow →
    s.mode.matchesChip (chipMode s.configShadow ce txEmpty) = true
end

