-- ==== Sys2Proof/Laws/Decode.lean ====
section
/-! SUPPORT. What the data field, the header word and a frame offer give back. -/

namespace Sys2Proof

/-- The front of an overlaid data field is what was laid over it. -/
theorem Payload.front_overlay (l : List Byte) (v : Payload) (h : l.length ≤ 32) :
    (Payload.overlay l v).front l.length = l := by
  apply List.ext_getElem <;> simp +contextual [Payload.overlay, Payload.front, h]

/-- Every bit of a header word (R87). -/
theorem headerWord_bit (op : BitVec 4) (target : BitVec 2) (noAck : Bool) (addr : BitVec 5) (byte : Byte)
    (count : BitVec 6) (i : Nat) (h : i < 32) :
    (headerWord op target noAck addr byte count).getLsbD i =
      if i < 4 then op.getLsbD i else if i < 6 then target.getLsbD (i - 4) else if i < 7 then noAck
      else if i < 8 then false else if i < 13 then addr.getLsbD (i - 8) else if i < 16 then false
      else if i < 24 then byte.getLsbD (i - 16) else if i < 30 then count.getLsbD (i - 24) else false := by
  unfold headerWord
  simp only [BitVec.getLsbD_append, BitVec.getLsbD_ofBool]
  interval_cases i <;> simp

/-- A header word gives its fields back (R87). -/
theorem Request.ofHeader_headerWord (op : BitVec 4) (target : BitVec 2) (noAck : Bool) (addr : BitVec 5) (byte : Byte)
    (count : BitVec 6) (data : Payload) (cfg : Configuration) :
    Request.ofHeader (headerWord op target noAck addr byte count) data cfg =
      { op := op, target := target, noAck := noAck, addr := addr, value := byte, opcode := byte, len := count,
        cap := count, data := data, cfg := cfg } := by
  have field (w lo : Nat) (h : lo + w ≤ 32) (v : BitVec w)
      (hv : ∀ i < w, (headerWord op target noAck addr byte count).getLsbD (lo + i) = v.getLsbD i) :
      (headerWord op target noAck addr byte count).extractLsb' lo w = v :=
    BitVec.eq_of_getLsbD_eq fun i hi => by simpa [hi] using hv i hi
  have e₁ := field 4 0 (by omega) op fun i hi => by rw [headerWord_bit _ _ _ _ _ _ _ (by omega)]; simp [hi]
  have e₂ := field 2 4 (by omega) target fun i hi => by
    rw [headerWord_bit _ _ _ _ _ _ _ (by omega)]; interval_cases i <;> simp
  have e₃ : (headerWord op target noAck addr byte count).getLsbD 6 = noAck := by
    rw [headerWord_bit _ _ _ _ _ _ _ (by omega)]; simp
  have e₄ := field 5 8 (by omega) addr fun i hi => by
    rw [headerWord_bit _ _ _ _ _ _ _ (by omega)]; interval_cases i <;> simp
  have e₅ := field 8 16 (by omega) byte fun i hi => by
    rw [headerWord_bit _ _ _ _ _ _ _ (by omega)]; interval_cases i <;> simp
  have e₆ := field 6 24 (by omega) count fun i hi => by
    rw [headerWord_bit _ _ _ _ _ _ _ (by omega)]; interval_cases i <;> simp
  simp only [Request.ofHeader, e₁, e₂, e₃, e₄, e₅, e₆]

/-- A frame offer's decoding is its command byte's. -/
theorem frameOffer_decode (cmd : Byte) (bs : List Byte) (h : bs.length ≤ 32) :
    (frameOffer cmd bs).decode = decodeFrame cmd bs := by
  have h₁ : (BitVec.ofNat 6 bs.length).toNat = bs.length := by simp; omega
  have h₂ : BitVec.ofNat 6 bs.length ≤ 32 := by simp [BitVec.le_def]; omega
  simp only [frameOffer, Offer.decode, h₂, if_true, h₁]
  rw [Payload.ofList, Payload.front_overlay _ _ h]

/-- A count that fits gives its instruction. -/
theorem whenCount_ok {ok : Bool} {cmd : Byte} {n : Nat} {i j : Instr} (h : whenCount ok cmd n i = .ok j) :
    ok = true ∧ i = j := by
  unfold whenCount at h
  split at h
  · exact ⟨by assumption, by simpa using h⟩
  · cases h

end Sys2Proof
end

