-- ==== Sys2Proof/Laws/Fields.lean ====
section
/-! SUPPORT. The registers that the shared operations leave alone, one lemma per field per operation. -/

namespace Sys2Proof.Machine

variable (s : State)

/-! ### `endRequest` -/

@[simp] theorem State.endRequest_mode : (s.endRequest).mode = s.mode := rfl
@[simp] theorem State.endRequest_configShadow : (s.endRequest).configShadow = s.configShadow := rfl
@[simp] theorem State.endRequest_payloadMode : (s.endRequest).payloadMode = s.payloadMode := rfl
@[simp] theorem State.endRequest_configured : (s.endRequest).configured = s.configured := rfl
@[simp] theorem State.endRequest_featuresActive : (s.endRequest).featuresActive = s.featuresActive := rfl
@[simp] theorem State.endRequest_ceShadow : (s.endRequest).ceShadow = s.ceShadow := rfl
@[simp] theorem State.endRequest_params : (s.endRequest).params = s.params := rfl

/-! ### `advance` -/

@[simp] theorem State.advance_mode : (s.advance).mode = s.mode := rfl
@[simp] theorem State.advance_configShadow : (s.advance).configShadow = s.configShadow := rfl
@[simp] theorem State.advance_payloadMode : (s.advance).payloadMode = s.payloadMode := rfl
@[simp] theorem State.advance_configured : (s.advance).configured = s.configured := rfl
@[simp] theorem State.advance_featuresActive : (s.advance).featuresActive = s.featuresActive := rfl
@[simp] theorem State.advance_ceShadow : (s.advance).ceShadow = s.ceShadow := rfl
@[simp] theorem State.advance_params : (s.advance).params = s.params := rfl

/-! ### `succeed` -/

@[simp] theorem State.succeed_mode (f : Result → Result) : (s.succeed f).mode = s.mode := rfl
@[simp] theorem State.succeed_configShadow (f : Result → Result) : (s.succeed f).configShadow = s.configShadow := rfl
@[simp] theorem State.succeed_payloadMode (f : Result → Result) : (s.succeed f).payloadMode = s.payloadMode := rfl
@[simp] theorem State.succeed_configured (f : Result → Result) : (s.succeed f).configured = s.configured := rfl
@[simp] theorem State.succeed_featuresActive (f : Result → Result) : (s.succeed f).featuresActive = s.featuresActive := rfl
@[simp] theorem State.succeed_ceShadow (f : Result → Result) : (s.succeed f).ceShadow = s.ceShadow := rfl
@[simp] theorem State.succeed_params (f : Result → Result) : (s.succeed f).params = s.params := rfl

/-! ### `raise` -/

@[simp] theorem State.raise_mode (e : ReqError) : (s.raise e).mode = s.mode := rfl
@[simp] theorem State.raise_configShadow (e : ReqError) : (s.raise e).configShadow = s.configShadow := rfl
@[simp] theorem State.raise_payloadMode (e : ReqError) : (s.raise e).payloadMode = s.payloadMode := rfl
@[simp] theorem State.raise_configured (e : ReqError) : (s.raise e).configured = s.configured := rfl
@[simp] theorem State.raise_featuresActive (e : ReqError) : (s.raise e).featuresActive = s.featuresActive := rfl
@[simp] theorem State.raise_ceShadow (e : ReqError) : (s.raise e).ceShadow = s.ceShadow := rfl
@[simp] theorem State.raise_params (e : ReqError) : (s.raise e).params = s.params := rfl

/-! ### `received` -/

@[simp] theorem State.received_mode (tx rx : List Byte) : (s.received tx rx).mode = s.mode := rfl
@[simp] theorem State.received_configShadow (tx rx : List Byte) : (s.received tx rx).configShadow = s.configShadow := rfl
@[simp] theorem State.received_payloadMode (tx rx : List Byte) : (s.received tx rx).payloadMode = s.payloadMode := rfl
@[simp] theorem State.received_configured (tx rx : List Byte) : (s.received tx rx).configured = s.configured := rfl
@[simp] theorem State.received_featuresActive (tx rx : List Byte) : (s.received tx rx).featuresActive = s.featuresActive := rfl
@[simp] theorem State.received_ceShadow (tx rx : List Byte) : (s.received tx rx).ceShadow = s.ceShadow := rfl
@[simp] theorem State.received_params (tx rx : List Byte) : (s.received tx rx).params = s.params := rfl

/-! ### `busFailed` -/

@[simp] theorem State.busFailed_mode (tx : List Byte) (e : BusError) : (s.busFailed tx e).mode = s.mode := rfl
@[simp] theorem State.busFailed_configShadow (tx : List Byte) (e : BusError) : (s.busFailed tx e).configShadow = s.configShadow := rfl
@[simp] theorem State.busFailed_payloadMode (tx : List Byte) (e : BusError) : (s.busFailed tx e).payloadMode = s.payloadMode := rfl
@[simp] theorem State.busFailed_configured (tx : List Byte) (e : BusError) : (s.busFailed tx e).configured = s.configured := rfl
@[simp] theorem State.busFailed_featuresActive (tx : List Byte) (e : BusError) : (s.busFailed tx e).featuresActive = s.featuresActive := rfl
@[simp] theorem State.busFailed_ceShadow (tx : List Byte) (e : BusError) : (s.busFailed tx e).ceShadow = s.ceShadow := rfl
@[simp] theorem State.busFailed_params (tx : List Byte) (e : BusError) : (s.busFailed tx e).params = s.params := rfl

/-! ### `spiDone` -/

@[simp] theorem State.spiDone_mode (ev : Event) : (s.spiDone ev).mode = s.mode := rfl
@[simp] theorem State.spiDone_configShadow (ev : Event) : (s.spiDone ev).configShadow = s.configShadow := rfl
@[simp] theorem State.spiDone_payloadMode (ev : Event) : (s.spiDone ev).payloadMode = s.payloadMode := rfl
@[simp] theorem State.spiDone_configured (ev : Event) : (s.spiDone ev).configured = s.configured := rfl
@[simp] theorem State.spiDone_featuresActive (ev : Event) : (s.spiDone ev).featuresActive = s.featuresActive := rfl
@[simp] theorem State.spiDone_ceShadow (ev : Event) : (s.spiDone ev).ceShadow = s.ceShadow := rfl
@[simp] theorem State.spiDone_params (ev : Event) : (s.spiDone ev).params = s.params := rfl

/-! ### `pinDone` -/

@[simp] theorem State.pinDone_mode (ev : Event) : (s.pinDone ev).mode = s.mode := rfl
@[simp] theorem State.pinDone_configShadow (ev : Event) : (s.pinDone ev).configShadow = s.configShadow := rfl
@[simp] theorem State.pinDone_payloadMode (ev : Event) : (s.pinDone ev).payloadMode = s.payloadMode := rfl
@[simp] theorem State.pinDone_configured (ev : Event) : (s.pinDone ev).configured = s.configured := rfl
@[simp] theorem State.pinDone_featuresActive (ev : Event) : (s.pinDone ev).featuresActive = s.featuresActive := rfl
@[simp] theorem State.pinDone_ceShadow (ev : Event) : (s.pinDone ev).ceShadow = s.ceShadow := rfl
@[simp] theorem State.pinDone_params (ev : Event) : (s.pinDone ev).params = s.params := rfl

/-! ### `delay` -/

@[simp] theorem State.delay_mode (us : Nat) : (s.delay us).mode = s.mode := rfl
@[simp] theorem State.delay_configShadow (us : Nat) : (s.delay us).configShadow = s.configShadow := rfl
@[simp] theorem State.delay_payloadMode (us : Nat) : (s.delay us).payloadMode = s.payloadMode := rfl
@[simp] theorem State.delay_configured (us : Nat) : (s.delay us).configured = s.configured := rfl
@[simp] theorem State.delay_featuresActive (us : Nat) : (s.delay us).featuresActive = s.featuresActive := rfl
@[simp] theorem State.delay_ceShadow (us : Nat) : (s.delay us).ceShadow = s.ceShadow := rfl
@[simp] theorem State.delay_params (us : Nat) : (s.delay us).params = s.params := rfl

/-! ### `accept` -/

@[simp] theorem State.accept_mode (o : Offer) : (s.accept o).mode = s.mode := rfl
@[simp] theorem State.accept_configShadow (o : Offer) : (s.accept o).configShadow = s.configShadow := rfl
@[simp] theorem State.accept_payloadMode (o : Offer) : (s.accept o).payloadMode = s.payloadMode := rfl
@[simp] theorem State.accept_configured (o : Offer) : (s.accept o).configured = s.configured := rfl
@[simp] theorem State.accept_featuresActive (o : Offer) : (s.accept o).featuresActive = s.featuresActive := rfl
@[simp] theorem State.accept_ceShadow (o : Offer) : (s.accept o).ceShadow = s.ceShadow := rfl
@[simp] theorem State.accept_params (o : Offer) : (s.accept o).params = s.params := rfl

/-! ### `sampled` -/

@[simp] theorem State.sampled_mode : (s.sampled).mode = s.mode := rfl
@[simp] theorem State.sampled_configShadow : (s.sampled).configShadow = s.configShadow := rfl
@[simp] theorem State.sampled_payloadMode : (s.sampled).payloadMode = s.payloadMode := rfl
@[simp] theorem State.sampled_configured : (s.sampled).configured = s.configured := rfl
@[simp] theorem State.sampled_featuresActive : (s.sampled).featuresActive = s.featuresActive := rfl
@[simp] theorem State.sampled_ceShadow : (s.sampled).ceShadow = s.ceShadow := rfl
@[simp] theorem State.sampled_params : (s.sampled).params = s.params := rfl

end Sys2Proof.Machine
end

