-- ==== Sys2Proof/Laws/State.lean ====
section
/-! SUPPORT. One lemma per field per update of the state, so that no proof unfolds a record update. -/

namespace Sys2Proof.Machine

variable (s : State)

/-! ### `setMode` -/

@[simp] theorem State.setMode_mode (m : Mode) : (s.setMode m).mode = m := rfl
@[simp] theorem State.setMode_configShadow (m : Mode) : (s.setMode m).configShadow = s.configShadow := rfl
@[simp] theorem State.setMode_payloadMode (m : Mode) : (s.setMode m).payloadMode = s.payloadMode := rfl
@[simp] theorem State.setMode_configured (m : Mode) : (s.setMode m).configured = s.configured := rfl
@[simp] theorem State.setMode_featuresActive (m : Mode) : (s.setMode m).featuresActive = s.featuresActive := rfl
@[simp] theorem State.setMode_ceShadow (m : Mode) : (s.setMode m).ceShadow = s.ceShadow := rfl
@[simp] theorem State.setMode_seq (m : Mode) : (s.setMode m).seq = s.seq := rfl
@[simp] theorem State.setMode_res (m : Mode) : (s.setMode m).res = s.res := rfl
@[simp] theorem State.setMode_params (m : Mode) : (s.setMode m).params = s.params := rfl
@[simp] theorem State.setMode_env (m : Mode) : (s.setMode m).env = s.env := rfl

/-! ### `setConfigShadow` -/

@[simp] theorem State.setConfigShadow_mode (v : Byte) : (s.setConfigShadow v).mode = s.mode := rfl
@[simp] theorem State.setConfigShadow_configShadow (v : Byte) : (s.setConfigShadow v).configShadow = v := rfl
@[simp] theorem State.setConfigShadow_payloadMode (v : Byte) : (s.setConfigShadow v).payloadMode = s.payloadMode := rfl
@[simp] theorem State.setConfigShadow_configured (v : Byte) : (s.setConfigShadow v).configured = s.configured := rfl
@[simp] theorem State.setConfigShadow_featuresActive (v : Byte) : (s.setConfigShadow v).featuresActive = s.featuresActive := rfl
@[simp] theorem State.setConfigShadow_ceShadow (v : Byte) : (s.setConfigShadow v).ceShadow = s.ceShadow := rfl
@[simp] theorem State.setConfigShadow_seq (v : Byte) : (s.setConfigShadow v).seq = s.seq := rfl
@[simp] theorem State.setConfigShadow_res (v : Byte) : (s.setConfigShadow v).res = s.res := rfl
@[simp] theorem State.setConfigShadow_params (v : Byte) : (s.setConfigShadow v).params = s.params := rfl
@[simp] theorem State.setConfigShadow_env (v : Byte) : (s.setConfigShadow v).env = s.env := rfl

/-! ### `setPayloadMode` -/

@[simp] theorem State.setPayloadMode_mode (m : PayloadMode) : (s.setPayloadMode m).mode = s.mode := rfl
@[simp] theorem State.setPayloadMode_configShadow (m : PayloadMode) : (s.setPayloadMode m).configShadow = s.configShadow := rfl
@[simp] theorem State.setPayloadMode_payloadMode (m : PayloadMode) : (s.setPayloadMode m).payloadMode = m := rfl
@[simp] theorem State.setPayloadMode_configured (m : PayloadMode) : (s.setPayloadMode m).configured = s.configured := rfl
@[simp] theorem State.setPayloadMode_featuresActive (m : PayloadMode) : (s.setPayloadMode m).featuresActive = s.featuresActive := rfl
@[simp] theorem State.setPayloadMode_ceShadow (m : PayloadMode) : (s.setPayloadMode m).ceShadow = s.ceShadow := rfl
@[simp] theorem State.setPayloadMode_seq (m : PayloadMode) : (s.setPayloadMode m).seq = s.seq := rfl
@[simp] theorem State.setPayloadMode_res (m : PayloadMode) : (s.setPayloadMode m).res = s.res := rfl
@[simp] theorem State.setPayloadMode_params (m : PayloadMode) : (s.setPayloadMode m).params = s.params := rfl
@[simp] theorem State.setPayloadMode_env (m : PayloadMode) : (s.setPayloadMode m).env = s.env := rfl

/-! ### `setConfigured` -/

@[simp] theorem State.setConfigured_mode (b : Bool) : (s.setConfigured b).mode = s.mode := rfl
@[simp] theorem State.setConfigured_configShadow (b : Bool) : (s.setConfigured b).configShadow = s.configShadow := rfl
@[simp] theorem State.setConfigured_payloadMode (b : Bool) : (s.setConfigured b).payloadMode = s.payloadMode := rfl
@[simp] theorem State.setConfigured_configured (b : Bool) : (s.setConfigured b).configured = b := rfl
@[simp] theorem State.setConfigured_featuresActive (b : Bool) : (s.setConfigured b).featuresActive = s.featuresActive := rfl
@[simp] theorem State.setConfigured_ceShadow (b : Bool) : (s.setConfigured b).ceShadow = s.ceShadow := rfl
@[simp] theorem State.setConfigured_seq (b : Bool) : (s.setConfigured b).seq = s.seq := rfl
@[simp] theorem State.setConfigured_res (b : Bool) : (s.setConfigured b).res = s.res := rfl
@[simp] theorem State.setConfigured_params (b : Bool) : (s.setConfigured b).params = s.params := rfl
@[simp] theorem State.setConfigured_env (b : Bool) : (s.setConfigured b).env = s.env := rfl

/-! ### `setFeaturesActive` -/

@[simp] theorem State.setFeaturesActive_mode (b : Bool) : (s.setFeaturesActive b).mode = s.mode := rfl
@[simp] theorem State.setFeaturesActive_configShadow (b : Bool) : (s.setFeaturesActive b).configShadow = s.configShadow := rfl
@[simp] theorem State.setFeaturesActive_payloadMode (b : Bool) : (s.setFeaturesActive b).payloadMode = s.payloadMode := rfl
@[simp] theorem State.setFeaturesActive_configured (b : Bool) : (s.setFeaturesActive b).configured = s.configured := rfl
@[simp] theorem State.setFeaturesActive_featuresActive (b : Bool) : (s.setFeaturesActive b).featuresActive = b := rfl
@[simp] theorem State.setFeaturesActive_ceShadow (b : Bool) : (s.setFeaturesActive b).ceShadow = s.ceShadow := rfl
@[simp] theorem State.setFeaturesActive_seq (b : Bool) : (s.setFeaturesActive b).seq = s.seq := rfl
@[simp] theorem State.setFeaturesActive_res (b : Bool) : (s.setFeaturesActive b).res = s.res := rfl
@[simp] theorem State.setFeaturesActive_params (b : Bool) : (s.setFeaturesActive b).params = s.params := rfl
@[simp] theorem State.setFeaturesActive_env (b : Bool) : (s.setFeaturesActive b).env = s.env := rfl

/-! ### `setCeShadow` -/

@[simp] theorem State.setCeShadow_mode (c : CeShadow) : (s.setCeShadow c).mode = s.mode := rfl
@[simp] theorem State.setCeShadow_configShadow (c : CeShadow) : (s.setCeShadow c).configShadow = s.configShadow := rfl
@[simp] theorem State.setCeShadow_payloadMode (c : CeShadow) : (s.setCeShadow c).payloadMode = s.payloadMode := rfl
@[simp] theorem State.setCeShadow_configured (c : CeShadow) : (s.setCeShadow c).configured = s.configured := rfl
@[simp] theorem State.setCeShadow_featuresActive (c : CeShadow) : (s.setCeShadow c).featuresActive = s.featuresActive := rfl
@[simp] theorem State.setCeShadow_ceShadow (c : CeShadow) : (s.setCeShadow c).ceShadow = c := rfl
@[simp] theorem State.setCeShadow_seq (c : CeShadow) : (s.setCeShadow c).seq = s.seq := rfl
@[simp] theorem State.setCeShadow_res (c : CeShadow) : (s.setCeShadow c).res = s.res := rfl
@[simp] theorem State.setCeShadow_params (c : CeShadow) : (s.setCeShadow c).params = s.params := rfl
@[simp] theorem State.setCeShadow_env (c : CeShadow) : (s.setCeShadow c).env = s.env := rfl

/-! ### `setSeq` -/

@[simp] theorem State.setSeq_mode (q : Seq) : (s.setSeq q).mode = s.mode := rfl
@[simp] theorem State.setSeq_configShadow (q : Seq) : (s.setSeq q).configShadow = s.configShadow := rfl
@[simp] theorem State.setSeq_payloadMode (q : Seq) : (s.setSeq q).payloadMode = s.payloadMode := rfl
@[simp] theorem State.setSeq_configured (q : Seq) : (s.setSeq q).configured = s.configured := rfl
@[simp] theorem State.setSeq_featuresActive (q : Seq) : (s.setSeq q).featuresActive = s.featuresActive := rfl
@[simp] theorem State.setSeq_ceShadow (q : Seq) : (s.setSeq q).ceShadow = s.ceShadow := rfl
@[simp] theorem State.setSeq_seq (q : Seq) : (s.setSeq q).seq = q := rfl
@[simp] theorem State.setSeq_res (q : Seq) : (s.setSeq q).res = s.res := rfl
@[simp] theorem State.setSeq_params (q : Seq) : (s.setSeq q).params = s.params := rfl
@[simp] theorem State.setSeq_env (q : Seq) : (s.setSeq q).env = s.env := rfl

/-! ### `setRes` -/

@[simp] theorem State.setRes_mode (r : Result) : (s.setRes r).mode = s.mode := rfl
@[simp] theorem State.setRes_configShadow (r : Result) : (s.setRes r).configShadow = s.configShadow := rfl
@[simp] theorem State.setRes_payloadMode (r : Result) : (s.setRes r).payloadMode = s.payloadMode := rfl
@[simp] theorem State.setRes_configured (r : Result) : (s.setRes r).configured = s.configured := rfl
@[simp] theorem State.setRes_featuresActive (r : Result) : (s.setRes r).featuresActive = s.featuresActive := rfl
@[simp] theorem State.setRes_ceShadow (r : Result) : (s.setRes r).ceShadow = s.ceShadow := rfl
@[simp] theorem State.setRes_seq (r : Result) : (s.setRes r).seq = s.seq := rfl
@[simp] theorem State.setRes_res (r : Result) : (s.setRes r).res = r := rfl
@[simp] theorem State.setRes_params (r : Result) : (s.setRes r).params = s.params := rfl
@[simp] theorem State.setRes_env (r : Result) : (s.setRes r).env = s.env := rfl

/-! ### `setEnv` -/

@[simp] theorem State.setEnv_mode (e : Env) : (s.setEnv e).mode = s.mode := rfl
@[simp] theorem State.setEnv_configShadow (e : Env) : (s.setEnv e).configShadow = s.configShadow := rfl
@[simp] theorem State.setEnv_payloadMode (e : Env) : (s.setEnv e).payloadMode = s.payloadMode := rfl
@[simp] theorem State.setEnv_configured (e : Env) : (s.setEnv e).configured = s.configured := rfl
@[simp] theorem State.setEnv_featuresActive (e : Env) : (s.setEnv e).featuresActive = s.featuresActive := rfl
@[simp] theorem State.setEnv_ceShadow (e : Env) : (s.setEnv e).ceShadow = s.ceShadow := rfl
@[simp] theorem State.setEnv_seq (e : Env) : (s.setEnv e).seq = s.seq := rfl
@[simp] theorem State.setEnv_res (e : Env) : (s.setEnv e).res = s.res := rfl
@[simp] theorem State.setEnv_params (e : Env) : (s.setEnv e).params = s.params := rfl
@[simp] theorem State.setEnv_env (e : Env) : (s.setEnv e).env = e := rfl

end Sys2Proof.Machine
end

