-- ==== Sys2Proof/Laws/Ops.lean ====
section
/-! SUPPORT. One lemma for each shared operation that says everything it can do, and its small lemmas. -/

namespace Sys2Proof.Machine

/-! ## The end of a request -/

@[simp] theorem State.endRequest_regs (s : State) : s.endRequest.regs = s.regs := rfl
@[simp] theorem State.endRequest_res (s : State) : s.endRequest.res = s.res := rfl
@[simp] theorem State.endRequest_env (s : State) : s.endRequest.env = s.env := rfl
@[simp] theorem State.endRequest_seq (s : State) : s.endRequest.seq = { s.seq with busy := false, k := 0 } := rfl

@[simp] theorem State.advance_regs (s : State) : s.advance.regs = s.regs := rfl
@[simp] theorem State.advance_res (s : State) : s.advance.res = s.res := rfl
@[simp] theorem State.advance_env (s : State) : s.advance.env = s.env := rfl
@[simp] theorem State.advance_seq (s : State) : s.advance.seq = { s.seq with k := s.seq.k + 1 } := rfl

@[simp] theorem State.succeed_regs (f : Result → Result) (s : State) : (s.succeed f).regs = s.regs := rfl
@[simp] theorem State.succeed_env (f : Result → Result) (s : State) : (s.succeed f).env = s.env := rfl
@[simp] theorem State.succeed_seq (f : Result → Result) (s : State) :
    (s.succeed f).seq = { s.seq with busy := false, k := 0 } := rfl
@[simp] theorem State.succeed_res (f : Result → Result) (s : State) :
    (s.succeed f).res = { f s.res with err := 0 } := rfl

@[simp] theorem State.raise_regs (e : ReqError) (s : State) : (s.raise e).regs = s.regs := rfl
@[simp] theorem State.raise_env (e : ReqError) (s : State) : (s.raise e).env = s.env := rfl
@[simp] theorem State.raise_seq (e : ReqError) (s : State) :
    (s.raise e).seq = { s.seq with busy := false, k := 0 } := rfl
@[simp] theorem State.raise_res (e : ReqError) (s : State) : (s.raise e).res = s.res.withError e := rfl

/-- An error writes its code. -/
@[simp] theorem Result.withError_err (r : Result) (e : ReqError) : (r.withError e).err = e.code := by
  cases e <;> rfl

/-- An error leaves the status byte and its valid bit as the last transaction left them (R218). -/
theorem Result.withError_status (r : Result) (e : ReqError) :
    (r.withError e).statusValid = r.statusValid ∧ (r.withError e).status = r.status := by
  cases e <;> exact ⟨rfl, rfl⟩

/-! ## The SPI bus -/

@[simp] theorem responseBytes_length (d n : Nat) (l : List Byte) : (responseBytes d n l).length = n := by
  simp [responseBytes]

/-- As many bytes come back as went out (R13). -/
theorem State.spiReply_length {n : Nat} {s : State} {rx : List Byte} (h : s.spiReply n = .ok rx) : rx.length = n := by
  unfold State.spiReply at h
  split at h
  · cases h
  · cases h; simp
  · split at h <;> cases h
    simp

/-- Everything a transaction can do (R102). -/
theorem State.xfer_cases (tx : List Byte) (s : State) (f : List Byte → State → State) :
    (∃ e, s.spiReply tx.length = .error e ∧ s.xfer tx f = s.busFailed tx e) ∨
      ∃ rx, s.spiReply tx.length = .ok rx ∧ rx.length = tx.length ∧ s.xfer tx f = f rx (s.received tx rx) := by
  unfold State.xfer
  cases h : s.spiReply tx.length with
  | error e => exact .inl ⟨e, rfl, rfl⟩
  | ok rx => exact .inr ⟨rx, rfl, s.spiReply_length h, rfl⟩

/-- A transaction that returned. -/
theorem State.xfer_ok {tx rx : List Byte} {s : State} (f : List Byte → State → State)
    (h : s.spiReply tx.length = .ok rx) : s.xfer tx f = f rx (s.received tx rx) := by
  simp [State.xfer, h]

/-- A transaction that failed. -/
theorem State.xfer_error {tx : List Byte} {e : BusError} {s : State} (f : List Byte → State → State)
    (h : s.spiReply tx.length = .error e) : s.xfer tx f = s.busFailed tx e := by
  simp [State.xfer, h]

@[simp] theorem State.received_regs (tx rx : List Byte) (s : State) : (s.received tx rx).regs = s.regs := rfl
@[simp] theorem State.received_seq (tx rx : List Byte) (s : State) : (s.received tx rx).seq = s.seq := rfl
@[simp] theorem State.received_res (tx rx : List Byte) (s : State) :
    (s.received tx rx).res = { s.res with statusValid := true, status := byteAt rx 0 } := rfl
@[simp] theorem State.received_env (tx rx : List Byte) (s : State) :
    (s.received tx rx).env =
      { s.env with spi := s.env.spi.tail, draws := s.env.draws + 1, events := .xfer tx rx :: s.env.events } := rfl

@[simp] theorem State.busFailed_regs (tx : List Byte) (e : BusError) (s : State) : (s.busFailed tx e).regs = s.regs := rfl
@[simp] theorem State.busFailed_seq (tx : List Byte) (e : BusError) (s : State) :
    (s.busFailed tx e).seq = { s.seq with busy := false, k := 0 } := rfl
@[simp] theorem State.busFailed_res (tx : List Byte) (e : BusError) (s : State) :
    (s.busFailed tx e).res = s.res.withError (.transport e) := rfl
@[simp] theorem State.busFailed_env (tx : List Byte) (e : BusError) (s : State) :
    (s.busFailed tx e).env =
      { s.env with spi := s.env.spi.tail, draws := s.env.draws + 1, events := .xferError tx e :: s.env.events } := rfl

/-! ## The CE output and the delay -/

/-- Everything a CE drive can do (R14, R26). -/
theorem State.setCe_cases (l : Level) (s : State) (f : State → State) :
    (∃ e, s.pinReply = some e ∧
        s.setCe l f = ((s.pinDone (.ceError l e)).setCeShadow .unknown).raise (.pin e)) ∨
      s.pinReply = none ∧ s.setCe l f = f ((s.pinDone (.ce l)).setCeShadow l.shadow) := by
  unfold State.setCe
  cases h : s.pinReply with
  | some e => exact .inl ⟨e, rfl, rfl⟩
  | none => exact .inr ⟨rfl, rfl⟩

@[simp] theorem State.pinDone_regs (ev : Event) (s : State) : (s.pinDone ev).regs = s.regs := rfl
@[simp] theorem State.pinDone_seq (ev : Event) (s : State) : (s.pinDone ev).seq = s.seq := rfl
@[simp] theorem State.pinDone_res (ev : Event) (s : State) : (s.pinDone ev).res = s.res := rfl
@[simp] theorem State.pinDone_env (ev : Event) (s : State) :
    (s.pinDone ev).env =
      { s.env with pin := s.env.pin.tail, draws := s.env.draws + 1, events := ev :: s.env.events } := rfl

@[simp] theorem State.delay_regs (us : Nat) (s : State) : (s.delay us).regs = s.regs := rfl
@[simp] theorem State.delay_seq (us : Nat) (s : State) : (s.delay us).seq = s.seq := rfl
@[simp] theorem State.delay_res (us : Nat) (s : State) : (s.delay us).res = s.res := rfl

/-! ## Taking a request and the reset input -/

@[simp] theorem State.accept_regs (o : Offer) (s : State) : (s.accept o).regs = s.regs := rfl
@[simp] theorem State.accept_busy (o : Offer) (s : State) : (s.accept o).seq.busy = true := rfl
@[simp] theorem State.accept_k (o : Offer) (s : State) : (s.accept o).seq.k = 0 := rfl
@[simp] theorem State.accept_req (o : Offer) (s : State) : (s.accept o).seq.req = o.record := rfl
@[simp] theorem State.accept_bare (o : Offer) (s : State) : (s.accept o).seq.bare = o.isFrame := rfl
@[simp] theorem State.accept_statusValid (o : Offer) (s : State) : (s.accept o).res.statusValid = false := rfl
@[simp] theorem State.accept_events (o : Offer) (s : State) : (s.accept o).env.events = s.env.events := rfl

@[simp] theorem State.sampled_regs (s : State) : s.sampled.regs = s.regs := rfl
@[simp] theorem State.sampled_seq (s : State) : s.sampled.seq = s.seq := rfl
@[simp] theorem State.sampled_res (s : State) : s.sampled.res = s.res := rfl
@[simp] theorem State.sampled_events (s : State) : s.sampled.env.events = s.env.events := rfl

@[simp] theorem State.sampled_requests (s : State) : s.sampled.env.requests = s.env.requests := rfl

@[simp] theorem State.takeReset_seq (s : State) : s.takeReset.seq = Seq.atReset := rfl
@[simp] theorem State.takeReset_params (s : State) : s.takeReset.params = s.params := rfl
@[simp] theorem State.takeReset_requests (s : State) : s.takeReset.env.requests = s.env.requests := rfl

/-- What is held after a request is taken decodes to what the offer does. -/
@[simp] theorem State.accept_held (o : Offer) (s : State) : (s.accept o).seq.held = o.decode := by
  cases o <;> rfl

/-- Where the block runs from (R8). -/
theorem State.fetch_cases {s u : State} (h : s.fetch = some u) :
    (s.seq.busy = true ∧ u = s) ∨
      (s.seq.busy = false ∧ ∃ o rest, s.env.requests = o :: rest ∧ u = s.accept o) := by
  unfold State.fetch at h
  split at h
  · cases h
    exact .inl ⟨by assumption, rfl⟩
  · rename_i hb
    refine .inr ⟨by simpa using hb, ?_⟩
    split at h
    · cases h
    · rename_i o rest ho
      cases h
      exact ⟨o, rest, ho, rfl⟩

@[simp] theorem execHeld_ok (i : Instr) (s : State) : execHeld (.ok i) s = exec i s := rfl
@[simp] theorem execHeld_error (r : Reject) (s : State) : execHeld (.error r) s = execRejected r s := rfl

/-- Everything a step of what is held can do: its effect, or, for a suspended call, nothing yet (R17, R27). -/
theorem State.runHeld_cases {suspended : Bool} {s t : State} (h : s.runHeld suspended = .next t) :
    ∃ v, execHeld s.seq.held s = .next v ∧ t = if suspended && s.callMade v then s else v := by
  unfold State.runHeld at h
  cases suspended with
  | false => exact ⟨t, by simpa using h, by simp⟩
  | true =>
    simp only [if_true] at h
    cases hv : execHeld s.seq.held s with
    | next v =>
      rw [hv] at h
      cases h
      exact ⟨v, rfl, by simp⟩
    | fault f => rw [hv] at h; cases h
    | refused r => rw [hv] at h; cases h

/-- Everything a step can do (R8, R17, R27, R217, R228). -/
theorem step_cases {s t : State} (h : step s = .next t) :
    (s.resetLevel = true ∧ t = s.takeReset) ∨
      (s.resetLevel = false ∧
        ((s.sampled.fetch = none ∧ t = s.sampled) ∨
          ∃ u v, s.sampled.fetch = some u ∧ execHeld u.seq.held u = .next v ∧
            t = if s.suspended && u.callMade v then u else v)) := by
  unfold step at h
  split at h
  · rename_i hl
    cases h
    exact .inl ⟨hl, rfl⟩
  · rename_i hl
    refine .inr ⟨by simpa using hl, ?_⟩
    split at h
    · rename_i hf
      cases h
      exact .inl ⟨hf, rfl⟩
    · rename_i u hf
      obtain ⟨v, hv, ht⟩ := State.runHeld_cases h
      exact .inr ⟨u, v, hf, hv, ht⟩

end Sys2Proof.Machine
end

