-- ==== Sys2Proof/Laws/PerInstr.lean ====
section
/-! SUPPORT. Per instruction: the encoding of a well-formed instruction lies in its row of the opcode table, that is, the bits
of the row's mask hold the row's match (R82, R86, R87). -/

namespace Sys2Proof

/-- The word a row's mask and match speak of: a frame's command byte, a request's header word. -/
def Offer.tableWord : Offer → Nat × BitVec 32
  | .frame cmd _ _ => (8, cmd.setWidth 32)
  | .request h _ _ => (32, h)

/-- The rows of spec/opcode_table.json: the width of the row's word, its mask and its match. -/
def Instr.row : Instr → Nat × BitVec 32 × BitVec 32
  | .rRegister _ _ => (8, 0xE0, 0x00)
  | .wRegister _ _ => (8, 0xE0, 0x20)
  | .rRxPayload _ => (8, 0xFF, 0x61)
  | .wTxPayload _ => (8, 0xFF, 0xA0)
  | .wTxPayloadNoack _ => (8, 0xFF, 0xB0)
  | .flushTxCmd => (8, 0xFF, 0xE1)
  | .flushRxCmd => (8, 0xFF, 0xE2)
  | .reuseTxPl => (8, 0xFF, 0xE3)
  | .activate _ => (8, 0xFF, 0x50)
  | .rRxPlWid => (8, 0xFF, 0x60)
  | .wAckPayload _ _ => (8, 0xF8, 0xA8)
  | .nop => (8, 0xFF, 0xFF)
  | .readRegister _ => (32, 0x0000000F, 0x00000000)
  | .writeRegister _ _ => (32, 0x0000000F, 0x00000001)
  | .sendCommand _ _ _ => (32, 0x0000000F, 0x00000002)
  | .apply _ => (32, 0x0000000F, 0x00000003)
  | .transitionPowerDown => (32, 0x0000003F, 0x00000004)
  | .transitionStandby => (32, 0x0000003F, 0x00000014)
  | .transitionTransmit => (32, 0x0000003F, 0x00000024)
  | .transitionReceive => (32, 0x0000003F, 0x00000034)
  | .writeTxPayload _ _ _ => (32, 0x0000000F, 0x00000005)
  | .readRxPayload _ => (32, 0x0000000F, 0x00000006)
  | .flushTx => (32, 0x0000000F, 0x00000007)
  | .flushRx => (32, 0x0000000F, 0x00000008)

/-- The low four bits of a header word are the request code (R87). -/
theorem headerWord_op (op : BitVec 4) (target : BitVec 2) (noAck : Bool) (addr : BitVec 5) (byte : Byte)
    (count : BitVec 6) : headerWord op target noAck addr byte count &&& 0x0000000F = op.setWidth 32 := by
  apply BitVec.eq_of_getLsbD_eq
  intro i hi
  rw [BitVec.getLsbD_and, headerWord_bit _ _ _ _ _ _ _ hi, BitVec.getLsbD_setWidth]
  interval_cases i <;> simp

namespace Laws.TableRow

/-- The encoding of the instruction, whatever dummy byte a read clocks out, lies in its row. -/
def Statement (i : Instr) : Prop :=
  ∀ dummy : Byte, (encodeWith dummy i).tableWord.1 = i.row.1 ∧ (encodeWith dummy i).tableWord.2 &&& i.row.2.1 = i.row.2.2

theorem rRegister (reg : BitVec 5) (n : Nat) : Statement (.rRegister reg n) := fun _ =>
  ⟨rfl, by
    change (cmdRRegister reg).setWidth 32 &&& 0xE0 = 0x00
    revert reg; decide⟩

theorem wRegister (reg : BitVec 5) (bytes : List Byte) : Statement (.wRegister reg bytes) := fun _ =>
  ⟨rfl, by
    change (cmdWRegister reg).setWidth 32 &&& 0xE0 = 0x20
    revert reg; decide⟩

theorem rRxPayload (n : Nat) : Statement (.rRxPayload n) := fun _ =>
  ⟨rfl, by
    change cmdRRxPayload.setWidth 32 &&& 0xFF = 0x61#32
    decide⟩

theorem wTxPayload (bytes : List Byte) : Statement (.wTxPayload bytes) := fun _ =>
  ⟨rfl, by
    change cmdWTxPayload.setWidth 32 &&& 0xFF = 0xA0#32
    decide⟩

theorem wTxPayloadNoack (bytes : List Byte) : Statement (.wTxPayloadNoack bytes) := fun _ =>
  ⟨rfl, by
    change cmdWTxPayloadNoack.setWidth 32 &&& 0xFF = 0xB0#32
    decide⟩

theorem flushTxCmd : Statement .flushTxCmd := fun _ =>
  ⟨rfl, by
    change cmdFlushTx.setWidth 32 &&& 0xFF = 0xE1#32
    decide⟩

theorem flushRxCmd : Statement .flushRxCmd := fun _ =>
  ⟨rfl, by
    change cmdFlushRx.setWidth 32 &&& 0xFF = 0xE2#32
    decide⟩

theorem reuseTxPl : Statement .reuseTxPl := fun _ =>
  ⟨rfl, by
    change cmdReuseTxPl.setWidth 32 &&& 0xFF = 0xE3#32
    decide⟩

theorem activate (data0 : Byte) : Statement (.activate data0) := fun _ =>
  ⟨rfl, by
    change cmdActivate.setWidth 32 &&& 0xFF = 0x50#32
    decide⟩

theorem rRxPlWid : Statement .rRxPlWid := fun _ =>
  ⟨rfl, by
    change cmdRRxPlWid.setWidth 32 &&& 0xFF = 0x60#32
    decide⟩

theorem wAckPayload (pipe : BitVec 3) (bytes : List Byte) : Statement (.wAckPayload pipe bytes) := fun _ =>
  ⟨rfl, by
    change (cmdWAckPayload pipe).setWidth 32 &&& 0xF8 = 0xA8
    revert pipe; decide⟩

theorem nop : Statement .nop := fun _ =>
  ⟨rfl, by
    change cmdNop.setWidth 32 &&& 0xFF = 0xFF#32
    decide⟩

theorem readRegister (addr : BitVec 5) : Statement (.readRegister addr) := fun _ => ⟨rfl, headerWord_op ..⟩

theorem writeRegister (addr : BitVec 5) (value : Byte) : Statement (.writeRegister addr value) := fun _ =>
  ⟨rfl, headerWord_op ..⟩

theorem sendCommand (opcode : Byte) (len : BitVec 6) (data : Payload) : Statement (.sendCommand opcode len data) :=
  fun _ => ⟨rfl, headerWord_op ..⟩

theorem apply (cfg : Configuration) : Statement (.apply cfg) := fun _ =>
  ⟨rfl, by
    change headerWord 3 0 false 0 0 0 &&& 0x0000000F#32 = 0x00000003#32
    decide⟩

theorem transitionPowerDown : Statement .transitionPowerDown := fun _ =>
  ⟨rfl, by
    change headerWord 4 0 false 0 0 0 &&& 0x0000003F#32 = 0x00000004#32
    decide⟩

theorem transitionStandby : Statement .transitionStandby := fun _ =>
  ⟨rfl, by
    change headerWord 4 1 false 0 0 0 &&& 0x0000003F#32 = 0x00000014#32
    decide⟩

theorem transitionTransmit : Statement .transitionTransmit := fun _ =>
  ⟨rfl, by
    change headerWord 4 2 false 0 0 0 &&& 0x0000003F#32 = 0x00000024#32
    decide⟩

theorem transitionReceive : Statement .transitionReceive := fun _ =>
  ⟨rfl, by
    change headerWord 4 3 false 0 0 0 &&& 0x0000003F#32 = 0x00000034#32
    decide⟩

theorem writeTxPayload (noAck : Bool) (len : BitVec 6) (data : Payload) : Statement (.writeTxPayload noAck len data) :=
  fun _ => ⟨rfl, headerWord_op ..⟩

theorem readRxPayload (cap : BitVec 6) : Statement (.readRxPayload cap) := fun _ => ⟨rfl, headerWord_op ..⟩

theorem flushTx : Statement .flushTx := fun _ =>
  ⟨rfl, by
    change headerWord 7 0 false 0 0 0 &&& 0x0000000F#32 = 0x00000007#32
    decide⟩

theorem flushRx : Statement .flushRx := fun _ =>
  ⟨rfl, by
    change headerWord 8 0 false 0 0 0 &&& 0x0000000F#32 = 0x00000008#32
    decide⟩

end Laws.TableRow
end Sys2Proof
end

