-- ==== Sys2Proof/Laws/Sequencer.lean ====
section
/-! SUPPORT. Everything one capability call of APPLY or of a transition can do, and everything a step of such a request and of
the other requests can do. -/

namespace Sys2Proof.Machine

/-- The state after a call that succeeded; `rx` is what the bus returned, for a call that uses it. -/
def State.called (c : Call) (rx : List Byte) (s : State) : State :=
  match c with
  | .ce l => (s.pinDone (.ce l)).setCeShadow l.shadow
  | .regWrite a v => s.received (cmdWRegister a :: v) rx
  | .activate => (s.received [cmdActivate, 0x73] rx).setFeaturesActive (!s.featuresActive)
  | .config keep set =>
    (s.received [cmdWRegister ChipReg.config.addr, configValue keep set s.configShadow] rx).setConfigShadow
      (configValue keep set s.configShadow)
  | .wait us => s.delay us

/-- The state after a CE drive that failed (R26, R213). -/
def State.pinFailed (l : Level) (e : GpioError) (s : State) : State :=
  ((s.pinDone (.ceError l e)).setCeShadow .unknown).raise (.pin e)

/-- A call succeeds and the request goes on, or it fails and the request ends with its error (R162, R213, R219). -/
theorem State.perform_cases (c : Call) (s : State) (f : State → State) :
    (∃ tx e, s.perform c f = s.busFailed tx e) ∨ (∃ l e, s.perform c f = s.pinFailed l e) ∨
      ∃ rx, s.perform c f = f (s.called c rx) := by
  cases c with
  | ce l =>
    obtain ⟨e, -, h⟩ | ⟨-, h⟩ := s.setCe_cases l f
    · exact .inr (.inl ⟨l, e, h⟩)
    · exact .inr (.inr ⟨[], h⟩)
  | wait us => exact .inr (.inr ⟨[], rfl⟩)
  | regWrite a v =>
    obtain ⟨e, -, h⟩ | ⟨rx, -, -, h⟩ := s.xfer_cases (cmdWRegister a :: v) fun _ => f
    · exact .inl ⟨_, e, h⟩
    · exact .inr (.inr ⟨rx, h⟩)
  | activate =>
    obtain ⟨e, -, h⟩ | ⟨rx, -, -, h⟩ :=
      s.xfer_cases [cmdActivate, 0x73] fun _ t => f (t.setFeaturesActive (!t.featuresActive))
    · exact .inl ⟨_, e, h⟩
    · exact .inr (.inr ⟨rx, h⟩)
  | config keep set =>
    obtain ⟨e, -, h⟩ | ⟨rx, -, -, h⟩ :=
      s.xfer_cases [cmdWRegister ChipReg.config.addr, configValue keep set s.configShadow] fun _ t =>
        f (t.setConfigShadow (configValue keep set s.configShadow))
    · exact .inl ⟨_, e, h⟩
    · exact .inr (.inr ⟨rx, h⟩)

/-- A step of a request of several calls makes the call that `seq.k` names; the last one ends the request. -/
theorem State.runCalls_cases {calls : List Call} {done : State → State} {s t : State}
    (h : s.runCalls calls done = .next t) :
    ∃ c, calls[s.seq.k.toNat]? = some c ∧
      ((∃ tx e, t = s.busFailed tx e) ∨ (∃ l e, t = s.pinFailed l e) ∨
        ∃ rx, t =
          if s.seq.k.toNat + 1 = calls.length then (done (s.called c rx)).succeed id else (s.called c rx).advance) := by
  unfold State.runCalls at h
  split at h
  · cases h
  · rename_i c hc
    refine ⟨c, hc, ?_⟩
    cases h
    exact s.perform_cases c _

@[simp] theorem State.called_seq (c : Call) (rx : List Byte) (s : State) : (s.called c rx).seq = s.seq := by
  cases c <;> rfl
@[simp] theorem State.called_mode (c : Call) (rx : List Byte) (s : State) : (s.called c rx).mode = s.mode := by
  cases c <;> rfl
@[simp] theorem State.called_payloadMode (c : Call) (rx : List Byte) (s : State) :
    (s.called c rx).payloadMode = s.payloadMode := by
  cases c <;> rfl
@[simp] theorem State.called_configured (c : Call) (rx : List Byte) (s : State) :
    (s.called c rx).configured = s.configured := by
  cases c <;> rfl
@[simp] theorem State.called_params (c : Call) (rx : List Byte) (s : State) : (s.called c rx).params = s.params := by
  cases c <;> rfl

/-- Everything a raw transaction can do (R109). -/
theorem State.sendRaw_cases (opcode : Byte) (data : List Byte) (s : State) :
    (∃ e, s.sendRaw opcode data = s.busFailed (opcode :: data) e) ∨
      ∃ rx, rx.length = data.length + 1 ∧
        s.sendRaw opcode data =
          (((s.received (opcode :: data) rx).setConfigShadow (shadowAfter opcode data s.configShadow)).setFeaturesActive
            (featuresAfter opcode data s.featuresActive)).succeed fun res =>
              { res with len := BitVec.ofNat 6 data.length, data := Payload.overlay (rx.drop 1) res.data } := by
  unfold State.sendRaw
  obtain ⟨e, -, h⟩ | ⟨rx, -, hl, h⟩ := s.xfer_cases (opcode :: data) fun r t =>
    ((t.setConfigShadow (shadowAfter opcode data t.configShadow)).setFeaturesActive
        (featuresAfter opcode data t.featuresActive)).succeed fun res =>
      { res with len := BitVec.ofNat 6 data.length, data := Payload.overlay (r.drop 1) res.data }
  · exact .inl ⟨e, h⟩
  · exact .inr ⟨rx, by simpa using hl, h⟩

/-- A raw transaction that returned (R109). -/
theorem State.sendRaw_ok {opcode : Byte} {data rx : List Byte} {s : State} (h : s.spiReply (data.length + 1) = .ok rx) :
    s.sendRaw opcode data =
      (((s.received (opcode :: data) rx).setConfigShadow (shadowAfter opcode data s.configShadow)).setFeaturesActive
        (featuresAfter opcode data s.featuresActive)).succeed fun res =>
          { res with len := BitVec.ofNat 6 data.length, data := Payload.overlay (rx.drop 1) res.data } := by
  rw [State.sendRaw, State.xfer_ok _ (by simpa using h)]
  rfl

end Sys2Proof.Machine
end

