-- ==== Sys2Proof/Tests/Slice0.lean ====
section
/-! SUPPORT. Tests: ill-formed terms, decoding of words written out from the spec, single steps from the vectors of
95_test_vectors.md (their ids stand in the comments), and one witness for the hypotheses of each statement. -/

namespace Sys2Proof.Tests
open Sys2Proof.Machine

/-! ## Helpers -/

/-- `n` bytes of one value. -/
def bytes (n : Nat) (b : Byte) : List Byte := List.replicate n b

/-- A pipe that is enabled with auto-acknowledgement, or disabled. -/
def pipeOn (ack : Bool) (len : BitVec 3) (addr : Vector Byte 5) : Pipe :=
  { enabled := true, autoAck := ack, addrLen := len, addr := addr }

/-- `cfgA` of 95_test_vectors.md. -/
def cfgA : Configuration where
  channel := 76
  dataRate := 1
  crc := 2
  aw := 5
  pipes := #v[pipeOn true 5 #v[0xE7, 0xE7, 0xE7, 0xE7, 0xE7], Pipe.blank, Pipe.blank, Pipe.blank, Pipe.blank, Pipe.blank]
  pmDynamic := false
  pmStaticN := 32

/-- `cfgB` of 95_test_vectors.md. -/
def cfgB : Configuration where
  channel := 2
  dataRate := 2
  crc := 1
  aw := 3
  pipes := #v[pipeOn true 3 #v[0x01, 0x02, 0x03, 0, 0], pipeOn false 3 #v[0x10, 0x20, 0x30, 0, 0],
    pipeOn true 3 #v[0x11, 0x20, 0x30, 0, 0], Pipe.blank, Pipe.blank, Pipe.blank]
  pmDynamic := true
  pmStaticN := 0

/-- A configured block inside a request that has made `k` calls. -/
def at' (mode : Mode) (shadow : Byte) (pm : PayloadMode) (ce : CeShadow) (k : BitVec 5) (spi : List SpiAnswer)
    (pin : List PinAnswer := []) : State :=
  { State.reset with
    mode := mode, configShadow := shadow, payloadMode := pm, configured := true, ceShadow := ce
    seq := { Seq.atReset with busy := true, k := k }
    env := { Env.quiet with spi := spi, pin := pin } }

/-- The block of a reset inside a request that has made no call. -/
def fresh (spi : List SpiAnswer) (pin : List PinAnswer := []) : State :=
  { State.reset with seq := { Seq.atReset with busy := true }, env := { Env.quiet with spi := spi, pin := pin } }

/-- The starting states of the transition vectors. -/
def inPD := at' .powerDown 0x0C (.static 32) .low
def inSB := at' .standby 0x0E (.static 32) .low
def inTX := at' .transmit 0x0E (.static 32) .high
def inRX := at' .receive 0x0F (.static 32) .high

/-- A property of the next state of an outcome; false where there is none. -/
def holds (o : Host.Outcome State Fault Refusal) (p : State → Bool) : Bool :=
  match o with
  | .next t => p t
  | .fault _ => false
  | .refused _ => false

/-- The request ended with success, a status byte and one transaction. -/
def sent (tx rx : List Byte) (status : Byte) (t : State) : Bool :=
  !t.seq.busy && t.res.err = 0 && t.res.status = status && t.env.events = [.xfer tx rx]

/-- The request ended with an error and no call. -/
def refusedWith (err : BitVec 4) (t : State) : Bool := !t.seq.busy && t.res.err = err && t.env.events = []

/-! ## Ill-formed terms, one for each check of `wellFormed` -/

theorem test_wf_rRegister : (Instr.rRegister 0 0).wellFormed = false ∧ (Instr.rRegister 0 6).wellFormed = false := by decide
theorem test_wf_wRegister :
    (Instr.wRegister 0 []).wellFormed = false ∧ (Instr.wRegister 0 (bytes 6 0)).wellFormed = false := by decide
theorem test_wf_rRxPayload : (Instr.rRxPayload 33).wellFormed = false := by decide
theorem test_wf_wTxPayload : (Instr.wTxPayload (bytes 33 0)).wellFormed = false := by decide
theorem test_wf_wTxPayloadNoack : (Instr.wTxPayloadNoack (bytes 33 0)).wellFormed = false := by decide
theorem test_wf_wAckPayload :
    (Instr.wAckPayload 6 [0]).wellFormed = false ∧ (Instr.wAckPayload 0 []).wellFormed = false ∧
      (Instr.wAckPayload 0 (bytes 33 0)).wellFormed = false := by decide

/-! ## Decoding: each command byte as R82's pattern gives it, each header word as R87 or a vector gives it -/

theorem test_dec_rRegister : decodeFrame 0b00000101 [0xFF] = .ok (.rRegister 0b00101 1) := by decide
theorem test_dec_wRegister : decodeFrame 0b00111101 [0x05] = .ok (.wRegister 0b11101 [0x05]) := by decide
theorem test_dec_rRxPayload : decodeFrame 0b01100001 [0xFF, 0xFF] = .ok (.rRxPayload 2) := by decide
theorem test_dec_wTxPayload : decodeFrame 0b10100000 [0xDE, 0xAD] = .ok (.wTxPayload [0xDE, 0xAD]) := by decide
theorem test_dec_wTxPayloadNoack : decodeFrame 0b10110000 [0x01] = .ok (.wTxPayloadNoack [0x01]) := by decide
theorem test_dec_flushTxCmd : decodeFrame 0b11100001 [] = .ok .flushTxCmd := by decide
theorem test_dec_flushRxCmd : decodeFrame 0b11100010 [] = .ok .flushRxCmd := by decide
theorem test_dec_reuseTxPl : decodeFrame 0b11100011 [] = .ok .reuseTxPl := by decide
theorem test_dec_activate : decodeFrame 0b01010000 [0x73] = .ok (.activate 0x73) := by decide
theorem test_dec_rRxPlWid : decodeFrame 0b01100000 [0xFF] = .ok .rRxPlWid := by decide
theorem test_dec_wAckPayload : decodeFrame 0b10101101 [0x11] = .ok (.wAckPayload 5 [0x11]) := by decide
theorem test_dec_nop : decodeFrame 0b11111111 [] = .ok .nop := by decide
/-- RA1. -/
theorem test_dec_readRegister : decodeTableWord 32 0x00000500 = some (.readRegister 5) := by decide
/-- RA10. -/
theorem test_dec_writeRegister : decodeTableWord 32 0x00551F01 = some (.writeRegister 0x1F 0x55) := by decide
/-- RA19. -/
theorem test_dec_sendCommand : decodeTableWord 32 0x21A00002 = some (.sendCommand 0xA0 33 Payload.zero) := by decide
/-- E1. -/
theorem test_dec_apply : decodeTableWord 32 0x00000003 = some (.apply Configuration.blank) := by decide
/-- H5. -/
theorem test_dec_transitionPowerDown : decodeTableWord 32 0x00000044 = some .transitionPowerDown := by decide
/-- H3. -/
theorem test_dec_transitionStandby : decodeTableWord 32 0xC0000094 = some .transitionStandby := by decide
/-- T3. -/
theorem test_dec_transitionTransmit : decodeTableWord 32 0x00000024 = some .transitionTransmit := by decide
/-- T4. -/
theorem test_dec_transitionReceive : decodeTableWord 32 0x00000034 = some .transitionReceive := by decide
/-- W7. -/
theorem test_dec_writeTxPayload : decodeTableWord 32 0x20000045 = some (.writeTxPayload true 32 Payload.zero) := by decide
/-- X4. -/
theorem test_dec_readRxPayload : decodeTableWord 32 0x08000006 = some (.readRxPayload 8) := by decide
/-- F1. -/
theorem test_dec_flushTx : decodeTableWord 32 0x00000007 = some .flushTx := by decide
/-- F2. -/
theorem test_dec_flushRx : decodeTableWord 32 0x00000008 = some .flushRx := by decide
/-- H1, H2. -/
theorem test_dec_reserved : decodeTableWord 32 0x00000009 = none ∧ decodeTableWord 32 0x0000000F = none := by decide
/-- H4: op 0 does not read bits 23:16. -/
theorem test_dec_unread : decodeTableWord 32 0x00FF0500 = some (.readRegister 5) := by decide
/-- R84: the pipes 6 and 7 of W_ACK_PAYLOAD, and the first and last byte of each range. -/
theorem test_dec_undefined :
    [(0x40 : Byte), 0x4F, 0x51, 0x5F, 0x62, 0x9F, 0xA1, 0xA7, 0xAE, 0xAF, 0xB1, 0xE0, 0xE4, 0xFE].all
      (fun c => decodeFrame c [] = .error (.undefinedCommand c)) = true := by decide
/-- R82, R111: the row of ACTIVATE is 0x50 with the data byte 0x73. -/
theorem test_dec_tableActivate :
    decodeTableWord 8 0x50 = some (.activate 0x73) ∧ decodeTableWord 8 0xB0 = some (.wTxPayloadNoack [0]) := by decide
/-- R82, R84: W_ACK_PAYLOAD's bytes go with one data byte in a table word, and every undefined byte with none. -/
theorem test_leastData :
    ([0xA8, 0xAD, 0xA0, 0xB0, 0x61, 0x60, 0x50, 0x00, 0x3F] : List Byte).all (fun c => leastData c = 1) = true ∧
      ([0xAE, 0xAF, 0xA7, 0x40, 0x5F, 0xFE, 0xE1, 0xFF] : List Byte).all (fun c => leastData c = 0) = true := by decide
/-- R82: a count the row does not have. -/
theorem test_dec_count : decodeFrame 0x50 [] = .error (.dataCount 0x50 0) := by decide

/-! ## Single steps: the SPI commands -/

/-- R100. -/
theorem test_rRegister :
    holds (exec (.rRegister 0x0A 5) (fresh [.rx [0x0E, 0xE7, 0xE7, 0xE7, 0xE7, 0xE7]]))
      (sent [0x0A, 0xFF, 0xFF, 0xFF, 0xFF, 0xFF] [0x0E, 0xE7, 0xE7, 0xE7, 0xE7, 0xE7] 0x0E) = true := by decide
/-- R101, R22. -/
theorem test_wRegister :
    holds (exec (.wRegister 0 [0x0A]) (fresh [.rx [0x0E, 0]]))
      (fun t => sent [0x20, 0x0A] [0x0E, 0] 0x0E t && t.configShadow = 0x0A) = true := by decide
/-- R104. -/
theorem test_rRxPayload :
    holds (exec (.rRxPayload 2) (fresh [.rx [0x42, 7, 8]]))
      (fun t => sent [0x61, 0xFF, 0xFF] [0x42, 7, 8] 0x42 t && t.res.data[1] = 8) = true := by decide
/-- R105. -/
theorem test_wTxPayload :
    holds (exec (.wTxPayload [1, 2]) (fresh [.rx [0x0E, 0, 0]])) (sent [0xA0, 1, 2] [0x0E, 0, 0] 0x0E) = true := by decide
/-- R105. -/
theorem test_wTxPayloadNoack :
    holds (exec (.wTxPayloadNoack [1]) (fresh [.rx [0x0E, 0]])) (sent [0xB0, 1] [0x0E, 0] 0x0E) = true := by decide
/-- R107. -/
theorem test_flushTxCmd : holds (exec .flushTxCmd (fresh [.rx [0x0E]])) (sent [0xE1] [0x0E] 0x0E) = true := by decide
/-- R108. -/
theorem test_flushRxCmd : holds (exec .flushRxCmd (fresh [.rx [0x0E]])) (sent [0xE2] [0x0E] 0x0E) = true := by decide
/-- R110. -/
theorem test_reuseTxPl : holds (exec .reuseTxPl (fresh [.rx [0x0E]])) (sent [0xE3] [0x0E] 0x0E) = true := by decide
/-- R111, R25. -/
theorem test_activate :
    holds (exec (.activate 0x73) (fresh [.rx [0x0E, 0]]))
      (fun t => sent [0x50, 0x73] [0x0E, 0] 0x0E t && t.featuresActive) = true := by decide
/-- R112. -/
theorem test_rRxPlWid :
    holds (exec .rRxPlWid (fresh [.rx [0x40, 5]]))
      (fun t => sent [0x60, 0xFF] [0x40, 5] 0x40 t && t.res.data[0] = 5) = true := by decide
/-- R113. -/
theorem test_wAckPayload :
    holds (exec (.wAckPayload 5 [9]) (fresh [.rx [0x0E, 0]])) (sent [0xAD, 9] [0x0E, 0] 0x0E) = true := by decide
/-- R114. -/
theorem test_nop : holds (exec .nop (fresh [.rx [0x2E]])) (sent [0xFF] [0x2E] 0x2E) = true := by decide

/-! ## Single steps: raw register requests -/

/-- RA1. -/
theorem test_RA1 :
    holds (exec (.readRegister 5) (fresh [.rx [0x0E, 2]]))
      (fun t => sent [0x05, 0xFF] [0x0E, 2] 0x0E t && t.res.value = 2) = true := by decide
/-- RA5, R13: whichever error the bus gives, it is passed through. -/
theorem test_RA5_any (b : BusError) :
    ∃ t, exec (.readRegister 0) (fresh [.error b]) = .next t ∧ t.res.err = 1 ∧ t.res.busErr = b ∧
      t.env.events = [.xferError [0x00, 0xFF] b] := ⟨_, rfl, rfl, rfl, rfl⟩
/-- RA5. -/
theorem test_RA5 :
    holds (exec (.readRegister 0) (fresh [.error default]))
      (fun t => t.res.err = 1 && t.res.busErr = default && !t.res.statusValid) = true := by decide
/-- RA6. -/
theorem test_RA6 :
    holds (exec (.writeRegister 0 0x0E) (fresh [.rx [0x0E, 0]]))
      (fun t => sent [0x20, 0x0E] [0x0E, 0] 0x0E t && t.configShadow = 0x0E && t.mode = .powerDown) = true := by decide
/-- RA7. -/
theorem test_RA7 :
    holds (exec (.writeRegister 0 0x0E) (fresh [.error default])) (fun t => t.res.err = 1 && t.configShadow = 0x08) = true := by
  decide
/-- RA14. -/
theorem test_RA14 :
    holds (exec (.sendCommand 0x50 1 (Payload.ofList [0x73])) ((fresh [.rx [0x0E, 0]]).setFeaturesActive true))
      (fun t => sent [0x50, 0x73] [0x0E, 0] 0x0E t && !t.featuresActive) = true := by decide
/-- RA19. -/
theorem test_RA19 :
    holds (exec (.sendCommand 0xA0 33 Payload.zero) (fresh []))
      (fun t => refusedWith 4 t && t.res.given = 33 && t.res.max = 32) = true := by decide

/-! ## APPLY -/

/-- A2, A5, A6. -/
theorem test_validate_1 :
    validate { cfgA with channel := 126 } = some .channelOutOfRange ∧
      validate { cfgA with dataRate := 3 } = some .invalidDataRate ∧
      validate { cfgA with crc := 3 } = some .invalidCrcMode ∧ validate { cfgA with channel := 125 } = none := by decide
/-- A7, A11, A26. -/
theorem test_validate_2 :
    validate { cfgA with aw := 2 } = some .invalidAddressWidth ∧
      validate { cfgA with aw := 6 } = some .invalidAddressWidth ∧
      validate { cfgA with pmStaticN := 33 } = some .staticPayloadSizeOutOfRange ∧
      validate { cfgA with pmStaticN := 0 } = some .staticPayloadSizeOutOfRange ∧
      validate { cfgA with pmDynamic := true, pmStaticN := 0 } = none := by decide
/-- A9, A12. -/
theorem test_validate_3 :
    validate { cfgA with pipes := cfgA.pipes.set 2 (pipeOn false 5 #v[0, 0, 0, 0, 0]) } = some .addressLengthMismatch ∧
      validate { cfgA with pipes := cfgA.pipes.set 0 Pipe.blank } = some .noPipeEnabled := by decide
/-- A10. -/
theorem test_validate_4 :
    validate { cfgB with pipes := cfgB.pipes.set 2 (pipeOn true 3 #v[0x11, 0x21, 0x30, 0, 0]) } =
      some .pipeAddressNotRepresentable ∧ validate cfgB = none := by decide
/-- A1: the 14 calls of E1. -/
theorem test_applyCalls_A1 :
    (applyCalls Config.defaults cfgA true false).map (Call.act 0x08) =
      [.drive .low, .send [0x25, 0x4C], .send [0x26, 0x06], .send [0x21, 0x01], .send [0x22, 0x01], .send [0x23, 0x03],
        .send [0x2A, 0xE7, 0xE7, 0xE7, 0xE7, 0xE7], .send [0x31, 0x20], .send [0x32, 0x00], .send [0x33, 0x00],
        .send [0x34, 0x00], .send [0x35, 0x00], .send [0x36, 0x00], .send [0x20, 0x0C]] := by decide
/-- A16. -/
theorem test_applyCalls_A16 :
    (applyCalls Config.defaults cfgB true true).map (Call.act 0x08) =
      [.drive .low, .send [0x25, 0x02], .send [0x26, 0x0E], .send [0x21, 0x05], .send [0x22, 0x07], .send [0x23, 0x01],
        .send [0x2A, 0x01, 0x02, 0x03], .send [0x2B, 0x10, 0x20, 0x30], .send [0x2C, 0x11], .send [0x50, 0x73],
        .send [0x3D, 0x05], .send [0x3C, 0x07], .send [0x20, 0x08]] := by decide
/-- A24. -/
theorem test_config_A24 : configValue applyKeep (crcBits cfgA.crc) 0x7F = 0x7F := by decide
/-- A20. -/
theorem test_apply_A20 :
    holds (exec (.apply cfgA) (inTX 0 []))
      (fun t => refusedWith 5 t && t.res.required = 0b0011 && t.res.actual = 2) = true := by decide
/-- A22. -/
theorem test_apply_A22 :
    holds (exec (.apply cfgA) (fresh [] [.error default]))
      (fun t => t.res.err = 2 && t.res.pinErr = default && t.ceShadow = .unknown && !t.configured) = true := by decide

/-! ## TRANSITION -/

/-- T1. -/
theorem test_T1 :
    holds (exec .transitionPowerDown (inPD 0 [.rx [0x0E, 0]]))
      (fun t => sent [0x20, 0x0C] [0x0E, 0] 0x0E t && t.mode = .powerDown && t.configShadow = 0x0C) = true := by decide
/-- T21, its second call. -/
theorem test_T21 :
    holds (exec .transitionPowerDown (inTX 1 [.error default]))
      (fun t => t.res.err = 1 && t.mode = .transmit && t.configShadow = 0x0E) = true := by decide
/-- T10. -/
theorem test_T10 :
    holds (exec .transitionStandby (at' .transmit 0x0E (.static 32) .high 0 [] [.ok]))
      (fun t => !t.seq.busy && t.res.err = 0 && !t.res.statusValid && t.mode = .standby && t.ceShadow = .low &&
        t.env.events = [.ce .low]) = true := by decide
/-- T22, R14: whichever error the CE output gives, it is passed through. -/
theorem test_T22_any (g : GpioError) :
    ∃ t, exec .transitionStandby (at' .transmit 0x0E (.static 32) .high 0 [] [.error g]) = .next t ∧ t.res.err = 2 ∧
      t.res.pinErr = g ∧ t.ceShadow = .unknown ∧ t.mode = .transmit ∧ t.env.events = [.ceError .low g] :=
  ⟨_, rfl, rfl, rfl, rfl, rfl, rfl⟩
/-- T18. -/
theorem test_T18 :
    holds (exec .transitionStandby (fresh [])) (fun t => refusedWith 8 t && t.res.reason = 9) = true := by decide
/-- T20, its second call. -/
theorem test_T20 :
    holds (exec .transitionTransmit (at' .standby 0x0E (.static 32) .low 1 [] [.error default]))
      (fun t => t.res.err = 2 && t.ceShadow = .unknown && t.mode = .standby) = true := by decide
/-- T3. -/
theorem test_T3 :
    holds (exec .transitionTransmit (inPD 0 []))
      (fun t => refusedWith 3 t && t.res.fromMode = 0 && t.res.toMode = 2) = true := by decide
/-- T8, its first call. -/
theorem test_T8 :
    holds (exec .transitionReceive (inSB 0 [.rx [0x0E, 0]]))
      (fun t => t.seq.busy && t.seq.k = 1 && t.configShadow = 0x0F && t.mode = .standby) = true := by decide
/-- T16. -/
theorem test_T16 :
    holds (exec .transitionReceive (inRX 0 []))
      (fun t => refusedWith 3 t && t.res.fromMode = 3 && t.res.toMode = 3) = true := by decide

/-! ## Payload transport and flushes -/

/-- W10, its status read: `r[1]` is tested. -/
theorem test_W10 :
    holds (exec (.writeTxPayload false 32 Payload.zero) (inTX 0 [.rx [0x0F, 0x0E]]))
      (fun t => t.seq.busy && t.seq.k = 1 && t.env.events = [.xfer [0x07, 0xFF] [0x0F, 0x0E]]) = true := by decide
/-- W6, its payload write: no padding. -/
theorem test_W6 :
    holds (exec (.writeTxPayload false 4 (Payload.ofList [1, 2, 3, 4])) (inSB 1 [.rx [0x0E, 0, 0, 0, 0]]))
      (sent [0xA0, 1, 2, 3, 4] [0x0E, 0, 0, 0, 0] 0x0E) = true := by decide
/-- X2: 0b110 is no payload. -/
theorem test_X2 :
    holds (exec (.readRxPayload 32) (inRX 0 [.rx [0x0C, 0x0C]])) (fun t => !t.seq.busy && t.res.err = 6) = true := by decide
/-- X6: a width above 32, and nothing is flushed. -/
theorem test_X6 :
    holds (exec (.readRxPayload 32) (at' .receive 0x0B .dynamic .high 1 [.rx [0x40, 0x21]]))
      (fun t => t.res.err = 4 && t.res.given = 33 && t.res.max = 32 && t.env.events = [.xfer [0x60, 0xFF] [0x40, 0x21]]) =
        true := by decide
/-- F1. -/
theorem test_F1 :
    holds (exec .flushTx (inTX 0 [])) (fun t => refusedWith 5 t && t.res.required = 0b1011 && t.res.actual = 2) = true := by
  decide
/-- F3. -/
theorem test_F3 : holds (exec .flushTx (fresh [.rx [0x0E]])) (sent [0xE1] [0x0E] 0x0E) = true := by decide
/-- F2. -/
theorem test_F2 : holds (exec .flushRx (inTX 0 [])) (refusedWith 5) = true := by decide
/-- F5. -/
theorem test_F5 : holds (exec .flushRx (inRX 0 [.rx [0x0E]])) (sent [0xE2] [0x0E] 0x0E) = true := by decide

/-! ## The step -/

/-- H1 from reset: no call, IllegalRequest. -/
theorem test_H1 : holds (step (State.reset.withFetchWord 32 9)) (refusedWith 15) = true := by decide
/-- RA13: the row of ACTIVATE, run from reset, sends [50 73] and flips `features_active`. -/
theorem test_tableActivate :
    holds (step ((State.reset.setEnv { Env.quiet with spi := [.rx [0x0E, 0]] }).withFetchWord 8 0x50))
      (fun t => sent [0x50, 0x73] [0x0E, 0] 0x0E t && t.featuresActive) = true := by decide
/-- RA18, R84: an undefined byte goes out unchanged. -/
theorem test_RA18 :
    holds (step { State.reset with
        env := { Env.quiet with requests := [.frame 0x40 0 Payload.zero], spi := [.rx [0x55]] } })
      (sent [0x40] [0x55] 0x55) = true := by decide
/-- R228: nothing presented, nothing done. -/
theorem test_idle : holds (step State.reset) (fun t => t = State.reset) = true := by decide
/-- R217, R240: reset inside a request. -/
theorem test_reset :
    holds (step { inTX 2 [] with env := { Env.quiet with resetIn := [true] } })
      (fun t => t.mode = .powerDown && t.ceShadow = .unknown && !t.configured && !t.seq.busy && t.configShadow = 0x08) =
        true := by decide
/-- A first call that is suspended at `n` steps, and the bus's answer. -/
def suspendedFlush (n : Nat) : State :=
  { State.reset with
    env := { Env.quiet with
      requests := [.frame 0xE1 0 Payload.zero], suspend := List.replicate n true, spi := [.rx [0x0E]] } }
/-- R17: while its first call is suspended the request is held and nothing else is done; then it runs as it would have. -/
theorem test_suspend :
    holds (step (suspendedFlush 1)) (fun t =>
        t.seq.busy && t.seq.k = 0 && t.seq.held = .ok .flushTxCmd && t.env.events = [] && t.env.requests = []) = true ∧
      holds (Sys2Proof.core.run 2 (suspendedFlush 1)) (sent [0xE1] [0x0E] 0x0E) = true := by decide
/-- R217: a request that is refused makes no call, so no call of it is suspended. -/
theorem test_suspend_refused :
    holds (step ((suspendedFlush 1).setEnv
      { (suspendedFlush 1).env with requests := [.request 0x34 Payload.zero cfgA] })) (refusedWith 8) = true := by decide
/-- R240, R248: a reset while the first call of a request is in flight cuts that call, whatever became of it. -/
theorem test_reset_cuts_first_call :
    holds (Sys2Proof.core.run 2 ((suspendedFlush 1).setEnv { (suspendedFlush 1).env with resetIn := [false, true] }))
      (fun t => !t.seq.busy && t.env.requests = [] &&
        match t.env.events with
        | [.reset (some _)] => true
        | _ => false) = true := by decide
/-- R212: the reason codes. -/
theorem test_reasonCodes :
    [ConfigReason.channelOutOfRange, .invalidAddressWidth, .addressLengthMismatch, .staticPayloadSizeOutOfRange,
      .noPipeEnabled, .invalidDataRate, .invalidCrcMode, .pipeAddressNotRepresentable, .notConfigured].map
        ConfigReason.code = [1, 2, 3, 4, 5, 6, 7, 8, 9] := by decide
/-- R12, R49, R50: DYNPD and FEATURE on the nRF24L01 wait for the toggle. -/
theorem test_writable :
    [ChipReg.dynpd, .feature].map (ChipReg.writable .nRF24L01 false) = [false, false] ∧
      [ChipReg.dynpd, .feature].map (ChipReg.writable .nRF24L01 true) = [true, true] ∧
      [ChipReg.dynpd, .feature].map (ChipReg.writable .nRF24L01P false) = [true, true] := by decide
/-- U8, U9, U10: free values. -/
theorem test_freeRegisterValues (draw : Nat) :
    dataRateKbps .nRF24L01 draw 0x26 = Config.freeDataRate .nRF24L01 draw 0x26 ∧
      dataRateKbps .nRF24L01P draw 0x2E = Config.freeDataRate .nRF24L01P draw 0x2E ∧
      addressWidth draw 0xFC = Config.freeAddressWidth draw 0xFC ∧ addressWidth draw 0x01 = some 3 :=
  ⟨rfl, rfl, rfl, rfl⟩
/-- R38: the reset values 0x0F and 0x0E, and the codes of the nRF24L01P. -/
theorem test_rfSetup :
    dataRateKbps .nRF24L01 0 0x0F = some 2000 ∧ lnaHcurr .nRF24L01 0x0F = some true ∧ contWave .nRF24L01 0x8F = none ∧
      dataRateKbps .nRF24L01P 0 0x26 = some 250 ∧ dataRateKbps .nRF24L01P 0 0x08 = some 2000 ∧ lnaHcurr .nRF24L01P 0x0F = none ∧
      contWave .nRF24L01P 0x8E = some true ∧ pllLock 0x1E = true := by decide
/-- R32: each mask has its own bit; EN_CRC is forced by any EN_AA bit, and not by the reserved ones. -/
theorem test_config :
    [maskRxDr, maskTxDs, maskMaxRt].map (· 0x40) = [true, false, false] ∧
      [maskRxDr, maskTxDs, maskMaxRt].map (· 0x20) = [false, true, false] ∧
      [maskRxDr, maskTxDs, maskMaxRt].map (· 0x10) = [false, false, true] ∧ cfgMasks = 0x70 ∧
      crcEnabled 0x00 0x20 = true ∧ crcEnabled 0x00 0xC0 = false ∧ crcEnabled 0x08 0x00 = true ∧
      crcLength 0x0C = 2 ∧ crcLength 0x08 = 1 := by decide
/-- R39: ones clear RX_DR, TX_DS and MAX_RT, and zeros leave them as they were. -/
theorem test_statusWrite :
    flagsAfterWrite 0x70 0x7F = 0x00 ∧ flagsAfterWrite 0x40 0x70 = 0x30 ∧ flagsAfterWrite 0x00 0x7E = 0x70 ∧
      flagsAfterWrite 0xFF 0x0F = 0x00 ∧ flagsAfterWrite 0x0F 0x40 = 0x40 := by decide
/-- R39, U2: whatever the draw, a write of STATUS touches the flags as R39 says and leaves bit 7 at 0. -/
theorem test_statusWrite_any (draw : Nat) (written status : Byte) :
    statusAfterWrite draw written status &&& 0xF0 = flagsAfterWrite written status := by
  have h : ∀ x : Byte, x &&& statusReadOnly &&& 0xF0 = 0 := by decide
  have h' : ∀ x y : Byte, x &&& statusWriteOneToClear &&& y &&& 0xF0 = x &&& statusWriteOneToClear &&& y := fun x y => by
    rw [BitVec.and_assoc, BitVec.and_comm y, ← BitVec.and_assoc, BitVec.and_assoc x]; rfl
  have distrib : ∀ x y z : Byte, (x ||| y) &&& z = x &&& z ||| y &&& z := fun x y z => by
    ext i; simp [Bool.and_or_distrib_right]
  rw [statusAfterWrite, distrib, h, flagsAfterWrite, h']
  exact BitVec.or_zero
/-- R82, R84, R111: the toggle's commands; 0xAE and 0xAF are undefined bytes, not W_ACK_PAYLOAD. -/
theorem test_featureCommand :
    ([0x60, 0xA8, 0xAD, 0xB0] : List Byte).all featureCommand = true ∧
      ([0xA7, 0xAE, 0xAF, 0xA0, 0x61, 0x50] : List Byte).any featureCommand = false ∧
      commandAccessible .nRF24L01 false 0x60 = false ∧ commandAccessible .nRF24L01 true 0x60 = true ∧
      commandAccessible .nRF24L01P false 0x60 = true ∧ hasActivate .nRF24L01P = false := by decide
/-- R42, R48: the reset values 0x00 and 0x11, and bit 0 of CD / RPD set. -/
theorem test_fifoStatus :
    [fifoTxReuse, fifoTxFull, fifoTxEmpty, fifoRxFull, fifoRxEmpty].map (· 0x11) = [false, false, true, false, true] ∧
      powerDetector .nRF24L01 0x01 = .carrier true ∧ powerDetector .nRF24L01P 0x00 = .receivedPower false := by decide
/-- R49: DPL_P2 alone is not enough. -/
theorem test_pipeDynamicLength :
    pipeDynamicLength 0x04 0x04 0x04 2 = true ∧ pipeDynamicLength 0x04 0x01 0x04 2 = false ∧
      pipeDynamicLength 0x04 0x04 0x3B 2 = false := by decide
/-- R31: the addresses of the register map are different from each other. -/
theorem test_regAddrs : (ChipReg.all.map ChipReg.addr).Nodup := by decide
/-- R51: a reserved address is no register. -/
theorem test_regReserved : ChipReg.at? 0x18 = none ∧ ChipReg.at? 0x1B = none ∧ ChipReg.at? 0x1D = some .feature := by decide

/-! ## Witnesses: for each statement with hypotheses, states and operands that meet them, clause by clause -/

/-- A host that presents one request, and a bus that answers as scripted. -/
def offered (o : Offer) (spi : List SpiAnswer) : State :=
  { State.reset with env := { Env.quiet with requests := [o], spi := spi } }

theorem witness_DecodeEncodeRoundTrip :
    (Instr.rRegister 31 5).wellFormed = true ∧ (Instr.wTxPayload []).wellFormed = true ∧
      (Instr.wAckPayload 5 (bytes 32 0xAA)).wellFormed = true ∧
      (Instr.sendCommand 0xA0 63 Payload.zero).wellFormed = true := by decide

theorem witness_DecodedInstructionsAreWellFormed :
    (Offer.frame 0xAD 32 Payload.zero).decode = .ok (.wAckPayload 5 (bytes 32 0)) ∧
      (Offer.request 0x20000006 Payload.zero cfgA).decode = .ok (.readRxPayload 32) := by decide

theorem witness_StepRunsDecodedInstruction :
    (offered (.request 0x07 Payload.zero cfgA) []).resetLevel = false ∧
      (offered (.request 0x07 Payload.zero cfgA) []).seq.busy = false ∧
      (offered (.request 0x07 Payload.zero cfgA) []).env.requests = [.request 0x07 Payload.zero cfgA] ∧
      (Offer.request 0x07 Payload.zero cfgA).decode = .ok .flushTx ∧
      (offered (.request 0x07 Payload.zero cfgA) []).suspended = false ∧
      (inTX 1 []).resetLevel = false ∧ (inTX 1 []).seq.busy = true ∧ (inTX 1 []).suspended = false ∧
      (inTX 1 []).seq.held = .ok (.readRegister 0) ∧
      { Seq.atReset with
        busy := true, bare := true, req := (Offer.frame 0x40 0 Payload.zero).record : Seq }.held =
          .error (.undefinedCommand 0x40) ∧
      (suspendedFlush 1).resetLevel = false ∧ (suspendedFlush 1).suspended = true ∧
      (suspendedFlush 1).seq.busy = false ∧ (suspendedFlush 1).env.requests = [.frame 0xE1 0 Payload.zero] ∧
      holds (execHeld ((suspendedFlush 1).sampled.accept (.frame 0xE1 0 Payload.zero)).seq.held
          ((suspendedFlush 1).sampled.accept (.frame 0xE1 0 Payload.zero)))
        (fun t => t.env.events = [.xfer [0xE1] [0x0E]]) = true ∧
      State.reset.resetLevel = false ∧ State.reset.seq.busy = false ∧ State.reset.env.requests = [] := by decide

theorem witness_ResetInputWins :
    ({ State.reset with env := { Env.quiet with resetIn := [true] } } : State).resetLevel = true ∧
      ({ State.reset with env := { Env.quiet with resetIn := [true] } } : State).seq.busy = false ∧
      ({ inTX 2 [] with env := { Env.quiet with resetIn := [true] } } : State).resetLevel = true ∧
      ({ inTX 2 [] with env := { Env.quiet with resetIn := [true] } } : State).seq.busy = true := by decide

theorem witness_ReservedCodesAreIllegalRequests :
    (offered (.request 0x09 Payload.zero cfgA) []).resetLevel = false ∧
      (offered (.request 0x09 Payload.zero cfgA) []).seq.busy = false ∧
      (offered (.request 0x09 Payload.zero cfgA) []).env.requests = [.request 0x09 Payload.zero cfgA] ∧
      9 ≤ (0x09 : BitVec 32).extractLsb' 0 4 ∧ 9 ≤ (0xFFFFFFFF : BitVec 32).extractLsb' 0 4 := by decide

theorem witness_UndefinedBytesGoOutUnchanged :
    (offered (.frame 0xAE 32 Payload.zero) [.rx (bytes 33 1)]).resetLevel = false ∧
      (offered (.frame 0xAE 32 Payload.zero) [.rx (bytes 33 1)]).seq.busy = false ∧
      (offered (.frame 0xAE 32 Payload.zero) [.rx (bytes 33 1)]).env.requests = [.frame 0xAE 32 Payload.zero] ∧
      (32 : BitVec 6) ≤ 32 ∧ (offered (.frame 0xAE 32 Payload.zero) [.rx (bytes 33 1)]).suspended = false ∧
      (Offer.frame 0xAE 32 Payload.zero).decode = .error (.undefinedCommand 0xAE) ∧
      (Offer.frame 0x20 0 Payload.zero).decode = .error (.dataCount 0x20 0) ∧
      (Offer.frame 0x50 2 Payload.zero).decode = .error (.dataCount 0x50 2) ∧
      (Offer.frame 0xFF 33 Payload.zero).decode = .error (.dataCount 0xFF 33) ∧ (32 : BitVec 6) < 33 ∧
      (offered (.frame 0xFF 33 Payload.zero) []).env.requests = [.frame 0xFF 33 Payload.zero] ∧
      ((offered (.frame 0x20 0 Payload.zero) [.error default]).sampled.accept (.frame 0x20 0 Payload.zero)).spiReply
        ((0 : BitVec 6).toNat + 1) = .error default ∧
      ((offered (.frame 0xAE 32 Payload.zero) [.rx (bytes 33 1)]).sampled.accept (.frame 0xAE 32 Payload.zero)).spiReply
        ((32 : BitVec 6).toNat + 1) = .ok (bytes 33 1) := by decide

theorem witness_SpiCommandsComplete :
    frameOf (fresh []).params.dummy (.wRegister 0 [0x0A]) = some (0x20, [0x0A]) ∧
      (fresh [.rx [0x0E, 0]]).spiReply ([(0x0A : Byte)].length + 1) = .ok [0x0E, 0] ∧
      frameOf (fresh []).params.dummy (.activate 0x73) = some (0x50, [0x73]) ∧
      frameOf (fresh []).params.dummy (.rRxPayload 32) = some (0x61, bytes 32 0xFF) ∧
      (fresh [.rx (bytes 33 1)]).spiReply ((bytes 32 0xFF).length + 1) = .ok (bytes 33 1) ∧
      frameOf (fresh []).params.dummy .nop = some (0xFF, []) ∧
      (fresh [.rx [0x2E]]).spiReply (([] : List Byte).length + 1) = .ok [0x2E] := by decide

theorem witness_SpiCommandIsSendCommand :
    (Instr.wAckPayload 5 (bytes 32 0)).wellFormed = true ∧
      frameOf (fresh []).params.dummy (.wAckPayload 5 (bytes 32 0)) = some (0xAD, bytes 32 0) := by decide

theorem witness_ReadRegisterCompletes :
    (fresh [.rx [0x0E, 2]]).spiReply 2 = .ok [0x0E, 2] ∧ (fresh [.error default]).spiReply 2 = .error default := by decide

theorem witness_WriteRegisterCompletes :
    (inSB 0 [.rx [0x0E, 0]]).spiReply 2 = .ok [0x0E, 0] ∧ (inSB 0 [.error default]).spiReply 2 = .error default := by decide

theorem witness_SendCommandCompletes :
    ((32 : BitVec 6) ≤ 32 ∧ (fresh [.rx (bytes 33 1)]).spiReply ((32 : BitVec 6).toNat + 1) = .ok (bytes 33 1)) ∧
      ((0 : BitVec 6) ≤ 32 ∧ (fresh [.rx [0x0E]]).spiReply ((0 : BitVec 6).toNat + 1) = .ok [0x0E]) ∧
      ((32 : BitVec 6) ≤ 32 ∧ (fresh [.error default]).spiReply ((32 : BitVec 6).toNat + 1) = .error default) ∧
      (32 : BitVec 6) < 33 := by decide

/-- Check `n` of R123 is the first that fails, and R212 gives its reason `code`. -/
def failsFirst (cfg : Configuration) (n : Nat) (code : BitVec 4) : Prop :=
  ∃ failed, (validateChecks cfg)[n]? = some (failed, code) ∧ failed ∧
    ∀ m earlier c, m < n → (validateChecks cfg)[m]? = some (earlier, c) → ¬earlier

/-- A2, A5 to A7, A9 to A12: one Configuration for each check. -/
theorem witness_ValidateAccepts :
    validate cfgA = none ∧ failsFirst { cfgA with channel := 126 } 0 1 ∧ failsFirst { cfgA with dataRate := 3 } 1 6 ∧
      failsFirst { cfgA with crc := 3 } 2 7 ∧ failsFirst { cfgA with aw := 6 } 3 2 ∧
      failsFirst { cfgA with pipes := cfgA.pipes.set 0 (pipeOn true 4 #v[0, 0, 0, 0, 0]) } 4 3 ∧
      failsFirst { cfgA with pipes := cfgA.pipes.set 2 (pipeOn false 5 #v[0, 0, 0, 0, 0]) } 5 3 ∧
      failsFirst { cfgB with pipes := cfgB.pipes.set 2 (pipeOn true 3 #v[0x11, 0x21, 0x30, 0, 0]) } 6 8 ∧
      failsFirst { cfgA with pmStaticN := 33 } 7 4 ∧ failsFirst { cfgA with pipes := cfgA.pipes.set 0 Pipe.blank } 8 5 := by
  refine ⟨by decide, ?_, ?_, ?_, ?_, ?_, ?_, ?_, ?_, ?_⟩ <;> refine ⟨_, rfl, by decide, ?_⟩ <;> intro m e c hm h <;>
    interval_cases m <;> cases h <;> decide

theorem witness_ApplyRefusals :
    (fresh []).seq.k = 0 ∧ validate { cfgA with channel := 126 } = some .channelOutOfRange ∧
      (inTX 0 []).seq.k = 0 ∧ validate cfgA = none ∧ (inTX 0 []).mode = .transmit ∧
      (inRX 0 []).seq.k = 0 ∧ (inRX 0 []).mode = .receive := by decide

theorem witness_RegisterValuesTranslate :
    validate cfgA = none ∧ validate { cfgA with channel := 125 } = none ∧ validate cfgB = none := by decide

theorem witness_RfSetupCarriesDataRate :
    Config.defaults.rfSetupBase = 0x06 ∧ validate { cfgA with dataRate := 0 } = none ∧ validate cfgA = none ∧
      validate cfgB = none := by decide

theorem witness_ReservedBitsWrittenZero :
    Config.defaults.rfSetupBase = 0x06 ∧ Config.defaults.featureDynamic = 0x05 ∧ validate cfgA = none ∧
      Call.regWrite (ChipReg.rxPw 0).addr [0x20] ∈ registerWrites Config.defaults cfgA false ∧
      validate cfgB = none ∧ Call.regWrite ChipReg.feature.addr [0x05] ∈ registerWrites Config.defaults cfgB true := by
  decide

theorem witness_ConfigIsWrittenLast :
    validate { cfgA with crc := 0 } = none ∧ validate cfgB = none ∧ validate cfgA = none ∧
      Call.ce .low ∈ (applyCalls Config.defaults cfgA true false).dropLast := by decide

theorem witness_ApplyFirstCall :
    ((fresh [] [.ok]).seq.k = 0 ∧ validate cfgA = none ∧ (fresh [] [.ok]).mode = .powerDown ∧
        (fresh [] [.ok]).ceShadow ≠ .low ∧ (fresh [] [.ok]).pinReply = none) ∧
      ((fresh [] [.error default]).seq.k = 0 ∧ (fresh [] [.error default]).mode = .powerDown ∧
        (fresh [] [.error default]).ceShadow ≠ .low ∧ (fresh [] [.error default]).pinReply = some default) ∧
      ((inSB 0 [.rx [0x0E, 0]]).seq.k = 0 ∧ (inSB 0 [.rx [0x0E, 0]]).mode = .standby ∧
        (inSB 0 [.rx [0x0E, 0]]).ceShadow = .low ∧ (inSB 0 [.rx [0x0E, 0]]).spiReply 2 = .ok [0x0E, 0]) := by decide

theorem witness_ApplyLastCallCompletes :
    (inSB 12 [.rx [0x0E, 0]]).seq.k ≠ 0 ∧
      (inSB 12 [.rx [0x0E, 0]]).seq.k.toNat + 1 =
        (applyCalls (inSB 12 []).params cfgA (inSB 12 []).seq.ceDriven (inSB 12 []).seq.activating).length ∧
      (inSB 12 [.rx [0x0E, 0]]).spiReply 2 = .ok [0x0E, 0] := by decide

theorem witness_ApplyWholeEffect :
    holds (runRequest (.apply cfgA) 19 (fresh [] [.error default])) (fun t => t.res.err = 2) = true ∧
      holds (runRequest (.apply cfgA) 19 (inSB 0 [.error default])) (fun t => t.res.err = 1) = true ∧
      (fresh []).seq.busy = true ∧ (fresh []).seq.k = 0 ∧ validate cfgB = none ∧ (fresh []).mode = .powerDown ∧
      (inSB 0 []).seq.busy = true ∧ (inSB 0 []).seq.k = 0 ∧ (inSB 0 []).mode = .standby := by decide

/-- A1: its 14 calls, all answered. -/
theorem witness_ApplyEmitsItsCallsInOrder :
    (fresh (List.replicate 13 (.rx (bytes 6 0x0E))) [.ok]).seq.busy = true ∧
      (fresh (List.replicate 13 (.rx (bytes 6 0x0E))) [.ok]).seq.k = 0 ∧ validate cfgA = none ∧
      (fresh (List.replicate 13 (.rx (bytes 6 0x0E))) [.ok]).mode = .powerDown ∧
      holds (runRequest (.apply cfgA) 19 (fresh (List.replicate 13 (.rx (bytes 6 0x0E))) [.ok]))
        (fun t => t.res.err = 0) = true := by decide

theorem witness_NotConfiguredRefusals : (fresh []).configured = false ∧ (fresh []).seq.k = 0 := by decide

theorem witness_LegalEdgesAreExactlyNine :
    (inPD 0 []).configured = true ∧ edgeCalls (inPD 0 []).params (inPD 0 []).mode .transmit = none ∧
      (edgeCalls (inPD 0 []).params (inPD 0 []).mode .powerDown).isSome = true := by decide

theorem witness_PowerDownToStandby :
    ((inPD 0 [.rx [0x0E, 0]]).configured = true ∧ (inPD 0 [.rx [0x0E, 0]]).mode = .powerDown ∧
        (inPD 0 [.rx [0x0E, 0]]).seq.k = 0 ∧ (inPD 0 [.rx [0x0E, 0]]).spiReply 2 = .ok [0x0E, 0]) ∧
      ((inPD 0 [.error default]).configured = true ∧ (inPD 0 [.error default]).mode = .powerDown ∧
        (inPD 0 [.error default]).seq.k = 0 ∧ (inPD 0 [.error default]).spiReply 2 = .error default) ∧
      ((inPD 1 []).configured = true ∧ (inPD 1 []).mode = .powerDown ∧ (inPD 1 []).seq.k = 1) := by decide

theorem witness_StandbyToTransmit :
    ((inSB 0 [.rx [0x0E, 0]]).configured = true ∧ (inSB 0 [.rx [0x0E, 0]]).mode = .standby ∧
        (inSB 0 [.rx [0x0E, 0]]).seq.k = 0 ∧ (inSB 0 [.rx [0x0E, 0]]).spiReply 2 = .ok [0x0E, 0]) ∧
      ((at' .standby 0x0E .dynamic .low 1 [] [.ok]).seq.k = 1 ∧
        (at' .standby 0x0E .dynamic .low 1 [] [.ok]).pinReply = none) ∧
      ((inSB 0 [.error default]).configured = true ∧ (inSB 0 [.error default]).mode = .standby ∧
        (inSB 0 [.error default]).seq.k = 0 ∧ (inSB 0 [.error default]).spiReply 2 = .error default) ∧
      ((at' .standby 0x0E .dynamic .low 1 [] [.error default]).configured = true ∧
        (at' .standby 0x0E .dynamic .low 1 [] [.error default]).mode = .standby ∧
        (at' .standby 0x0E .dynamic .low 1 [] [.error default]).seq.k = 1 ∧
        (at' .standby 0x0E .dynamic .low 1 [] [.error default]).pinReply = some default) ∧
      ((inSB 2 []).configured = true ∧ (inSB 2 []).mode = .standby ∧ (inSB 2 []).seq.k = 2) := by decide

theorem witness_StandbyToReceive :
    ((inSB 0 [.rx [0x0E, 0]]).configured = true ∧ (inSB 0 [.rx [0x0E, 0]]).mode = .standby ∧
        (inSB 0 [.rx [0x0E, 0]]).seq.k = 0 ∧ (inSB 0 [.rx [0x0E, 0]]).spiReply 2 = .ok [0x0E, 0]) ∧
      ((at' .standby 0x0F .dynamic .low 1 [] [.ok]).configured = true ∧
        (at' .standby 0x0F .dynamic .low 1 [] [.ok]).mode = .standby ∧
        (at' .standby 0x0F .dynamic .low 1 [] [.ok]).seq.k = 1 ∧
        (at' .standby 0x0F .dynamic .low 1 [] [.ok]).pinReply = none) ∧
      (inSB 0 [.error default]).spiReply 2 = .error default ∧
      ((at' .standby 0x0F .dynamic .low 1 [] [.error default]).configured = true ∧
        (at' .standby 0x0F .dynamic .low 1 [] [.error default]).mode = .standby ∧
        (at' .standby 0x0F .dynamic .low 1 [] [.error default]).seq.k = 1 ∧
        (at' .standby 0x0F .dynamic .low 1 [] [.error default]).pinReply = some default) := by decide

theorem witness_ActiveToStandby :
    (at' .receive 0x0F .dynamic .high 0 [] [.ok]).configured = true ∧
      (at' .receive 0x0F .dynamic .high 0 [] [.ok]).mode = .receive ∧
      (at' .receive 0x0F .dynamic .high 0 [] [.ok]).seq.k = 0 ∧
      (at' .receive 0x0F .dynamic .high 0 [] [.ok]).pinReply = none ∧
      (at' .transmit 0x0E .dynamic .high 0 [] [.error default]).mode = .transmit ∧
      (at' .transmit 0x0E .dynamic .high 0 [] [.error default]).pinReply = some default := by decide

theorem witness_StandbyOrPowerDownToPowerDown :
    (inPD 0 [.rx [0x0E, 0]]).configured = true ∧ (inPD 0 [.rx [0x0E, 0]]).mode = .powerDown ∧
      (inPD 0 [.rx [0x0E, 0]]).seq.k = 0 ∧ (inPD 0 [.rx [0x0E, 0]]).spiReply 2 = .ok [0x0E, 0] ∧
      (inSB 0 [.error default]).configured = true ∧ (inSB 0 [.error default]).mode = .standby ∧
      (inSB 0 [.error default]).seq.k = 0 ∧ (inSB 0 [.error default]).spiReply 2 = .error default := by decide

theorem witness_ActiveToPowerDown :
    (at' .transmit 0x0E .dynamic .high 0 [] [.ok]).configured = true ∧
      (at' .transmit 0x0E .dynamic .high 0 [] [.ok]).mode = .transmit ∧
      (at' .transmit 0x0E .dynamic .high 0 [] [.ok]).seq.k = 0 ∧
      (at' .transmit 0x0E .dynamic .high 0 [] [.ok]).pinReply = none ∧
      (inRX 1 [.rx [0x0E, 0]]).configured = true ∧ (inRX 1 [.rx [0x0E, 0]]).mode = .receive ∧
      (inRX 1 [.rx [0x0E, 0]]).seq.k = 1 ∧ (inRX 1 [.rx [0x0E, 0]]).spiReply 2 = .ok [0x0E, 0] ∧
      (inRX 1 [.error default]).spiReply 2 = .error default ∧
      (at' .receive 0x0F .dynamic .high 0 [] [.error default]).mode = .receive ∧
      (at' .receive 0x0F .dynamic .high 0 [] [.error default]).seq.k = 0 ∧
      (at' .receive 0x0F .dynamic .high 0 [] [.error default]).pinReply = some default := by decide

/-- An edge that goes on, and one that ends with an error (T21). -/
theorem witness_TransitionKeepsOtherBits :
    (inPD 0 [.rx [0x0E, 0]]).seq.busy = true ∧
      holds (exec .transitionStandby (inPD 0 [.rx [0x0E, 0]])) (fun t => t.seq.busy) = true ∧
      (inTX 1 [.error default]).seq.busy = true ∧
      holds (exec .transitionPowerDown (inTX 1 [.error default])) (fun t => !t.seq.busy && t.res.err ≠ 0) = true := by decide

/-- T2 and T7. -/
theorem witness_SettleTimesAreKept :
    Config.boundsOk (inPD 0 []).params = true ∧
      ((inPD 0 [.rx [0x0E, 0]]).mode = .powerDown ∧
        holds (runRequest .transitionStandby 19 (inPD 0 [.rx [0x0E, 0]])) (fun t => t.res.err = 0) = true) ∧
      ((at' .standby 0x0E .dynamic .low 0 [.rx [0x0E, 0]] [.ok]).mode = .standby ∧
        holds (runRequest .transitionTransmit 19 (at' .standby 0x0E .dynamic .low 0 [.rx [0x0E, 0]] [.ok]))
          (fun t => t.res.err = 0) = true) := by decide

/-- W2 to W4, W11 and W12, at the limits. -/
theorem witness_WriteTxRefusals :
    ((inTX 0 []).configured = true ∧ (inTX 0 []).seq.k = 0 ∧ (inTX 0 []).payloadMode = .static 32 ∧
        (32 : BitVec 6).toNat < (33 : BitVec 6).toNat) ∧
      ((at' .standby 0x0E .dynamic .low 0 []).payloadMode = .dynamic ∧ 32 < (63 : BitVec 6).toNat) ∧
      ((inPD 0 []).payloadMode = .static 32 ∧ (32 : BitVec 6).toNat ≤ 32 ∧ (inPD 0 []).mode = .powerDown) ∧
      ((inRX 0 []).payloadMode = .static 32 ∧ (inRX 0 []).mode = .receive) := by decide

/-- W9 and W1. -/
theorem witness_WriteTxStatusRead :
    (inTX 0 [.rx [0x0F, 0x0F]]).configured = true ∧ (inTX 0 [.rx [0x0F, 0x0F]]).seq.k = 0 ∧
      (inTX 0 [.rx [0x0F, 0x0F]]).payloadMode = .static 32 ∧ (inTX 0 [.rx [0x0F, 0x0F]]).mode = .transmit ∧
      (inTX 0 [.rx [0x0F, 0x0F]]).spiReply 2 = .ok [0x0F, 0x0F] ∧ (byteAt [0x0F, 0x0F] 1).getLsbD 0 = true ∧
      (inTX 0 [.rx [0x0E, 0x0E]]).spiReply 2 = .ok [0x0E, 0x0E] ∧ (byteAt [0x0E, 0x0E] 1).getLsbD 0 = false ∧
      (at' .standby 0x0E .dynamic .low 0 [.rx [0x0E, 0x0E]]).payloadMode = .dynamic ∧
      (at' .standby 0x0E .dynamic .low 0 [.rx [0x0E, 0x0E]]).mode = .standby := by decide

theorem witness_WriteTxCompletes :
    (inTX 1 [.rx (bytes 33 0x0E)]).seq.k = 1 ∧
      (inTX 1 [.rx (bytes 33 0x0E)]).spiReply ((Payload.zero.front (32 : BitVec 6).toNat).length + 1) =
        .ok (bytes 33 0x0E) ∧
      (inTX 1 [.rx [0x0E]]).spiReply ((Payload.zero.front (0 : BitVec 6).toNat).length + 1) = .ok [0x0E] := by decide

/-- X1 to X5: pipe numbers 6 and 7, 5 and 0; a capacity one below and at N. -/
theorem witness_ReadRxStatusRead :
    (inRX 0 [.rx [0x0E, 0x0C]]).configured = true ∧ (inRX 0 [.rx [0x0E, 0x0C]]).seq.k = 0 ∧
      (inRX 0 [.rx [0x0E, 0x0C]]).spiReply 2 = .ok [0x0E, 0x0C] ∧
      5 < (byteAt [0x0E, 0x0C] 1).extractLsb' 1 3 ∧ 5 < (byteAt [0x0E, 0x0E] 1).extractLsb' 1 3 ∧
      (byteAt [0x4A, 0x4A] 1).extractLsb' 1 3 ≤ 5 ∧ (byteAt [0x40, 0x40] 1).extractLsb' 1 3 ≤ 5 ∧
      (inRX 0 [.rx [0x4A, 0x4A]]).spiReply 2 = .ok [0x4A, 0x4A] ∧
      (inRX 0 [.rx [0x4A, 0x4A]]).payloadMode = .static 32 ∧ (31 : BitVec 6) < 32 ∧ (32 : BitVec 6) ≤ 32 ∧
      (at' .receive 0x0F .dynamic .high 0 [.rx [0x40, 0x40]]).payloadMode = .dynamic ∧
      (at' .receive 0x0F .dynamic .high 0 [.rx [0x40, 0x40]]).spiReply 2 = .ok [0x40, 0x40] := by decide

/-- X6 to X9. -/
theorem witness_ReadRxWidthRead :
    (at' .receive 0x0B .dynamic .high 1 [.rx [0x40, 0x21]]).payloadMode = .dynamic ∧
      (at' .receive 0x0B .dynamic .high 1 [.rx [0x40, 0x21]]).seq.k = 1 ∧
      (at' .receive 0x0B .dynamic .high 1 [.rx [0x40, 0x21]]).spiReply 2 = .ok [0x40, 0x21] ∧
      (32 : Byte) < byteAt [0x40, 0x21] 1 ∧
      (byteAt [0x40, 0x0A] 1 ≤ 32 ∧ (8 : BitVec 6).setWidth 8 < byteAt [0x40, 0x0A] 1) ∧
      (byteAt [0x40, 0x20] 1 ≤ 32 ∧ byteAt [0x40, 0x20] 1 ≤ (32 : BitVec 6).setWidth 8) ∧
      (byteAt [0x40, 0x00] 1 ≤ 32 ∧ byteAt [0x40, 0x00] 1 ≤ (0 : BitVec 6).setWidth 8) := by decide

theorem witness_ReadRxCompletes :
    ((32 : Byte) ≤ 32 ∧ (inRX 1 [.rx (bytes 33 0x42)]).payloadMode = .static 32 ∧
        (inRX 1 [.rx (bytes 33 0x42)]).seq.k = 1 ∧ (32 : Byte) = (32 : BitVec 6).setWidth 8 ∧
        (inRX 1 [.rx (bytes 33 0x42)]).spiReply ((32 : Byte).toNat + 1) = .ok (bytes 33 0x42)) ∧
      ((at' .receive 0x0B .dynamic .high 2 [.rx [0x40]]).payloadMode = .dynamic ∧
        (at' .receive 0x0B .dynamic .high 2 [.rx [0x40]]).seq.k = 2 ∧
        (0 : Byte) = (at' .receive 0x0B .dynamic .high 2 [.rx [0x40]]).seq.width ∧
        (at' .receive 0x0B .dynamic .high 2 [.rx [0x40]]).spiReply ((0 : Byte).toNat + 1) = .ok [0x40]) := by decide

theorem witness_FlushesComplete :
    (Instr.flushRx, (0xE2 : Byte)) ∈ [(Instr.flushTx, (0xE1 : Byte)), (.flushRx, 0xE2)] ∧
      (inTX 0 []).mode = .transmit ∧ (inRX 0 [.rx [0x0E]]).mode ≠ .transmit ∧
      (inRX 0 [.rx [0x0E]]).spiReply 1 = .ok [0x0E] ∧ (fresh [.error default]).mode ≠ .transmit ∧
      (fresh [.error default]).spiReply 1 = .error default := by decide

/-- T19 and T20. -/
theorem witness_FailedCallsEndRequests :
    holds (exec .transitionStandby (inPD 0 [.error default]))
        (fun t => t.env.events = .xferError [0x20, 0x0E] default :: (inPD 0 [.error default]).env.events) = true ∧
      holds (exec .transitionTransmit (at' .standby 0x0E .dynamic .low 1 [] [.error default]))
        (fun t => t.env.events =
          .ceError .high default :: (at' .standby 0x0E .dynamic .low 1 [] [.error default]).env.events) = true ∧
      holds (execHeld (.error (.undefinedCommand 0x40)) (fresh [.error default]))
        (fun t => t.env.events = [.xferError [0x00] default]) = true := by decide

/-- T3, F1 and T18. -/
theorem witness_ProtocolRefusalsTouchNothing :
    (inPD 0 []).seq.busy = true ∧ (inPD 0 []).seq.k = 0 ∧ (inTX 0 []).seq.k = 0 ∧ (fresh []).seq.k = 0 ∧
      admitted .transitionStandby (inPD 1 []) = true ∧
      holds (exec (.writeTxPayload false 33 Payload.zero) (inTX 0 [])) (fun t => t.seq.busy = false && t.res.err = 4) = true ∧
      holds (exec .transitionTransmit (inPD 0 [])) (fun t => t.seq.busy = false && t.res.err = 3) = true ∧
      holds (exec .flushTx (inTX 0 [])) (fun t => t.seq.busy = false && t.res.err = 5) = true ∧
      holds (exec .transitionStandby (fresh [])) (fun t => t.seq.busy = false && t.res.err = 8) = true := by decide

theorem witness_ErrorCodesPerRequest :
    (inTX 0 []).seq.busy = true ∧
      holds (exec .flushTx (inTX 0 [])) (fun t => t.seq.busy = false && t.res.err = 5) = true ∧
      holds (execHeld (.error (.reservedOp 9)) (inTX 0 [])) (fun t => t.seq.busy = false && t.res.err = 15) = true ∧
      holds (execHeld (.error (.dataCount 0 0)) (fresh [.error default])) (fun t => t.seq.busy = false && t.res.err = 1) = true :=
  by decide

theorem witness_OneCallPerStep :
    holds (step (offered (.request 0x07 Payload.zero cfgA) [.rx [0x0E]]))
      (fun t => t.env.events = [.xfer [0xE1] [0x0E]]) = true := by decide

theorem witness_OnlyTransitionsWriteMode :
    holds (exec .transitionPowerDown (inSB 0 [.rx [0x0E, 0]])) (fun t => t.mode = .powerDown) = true := by decide

theorem witness_OnlyApplyConfigures :
    holds (exec (.apply cfgA) (inSB 12 [.rx [0x0E, 0]])) (fun t => t.configured && t.payloadMode = .static 32) = true := by
  decide

theorem witness_ShadowsTrackTraceKept :
    (offered (.frame 0x20 1 (Payload.ofList [0x0A])) [.rx [0x0E, 0]]).ShadowsTrackTrace ∧
      holds (step (offered (.frame 0x20 1 (Payload.ofList [0x0A])) [.rx [0x0E, 0]]))
        (fun t => t.configShadow = 0x0A) = true := by decide

/-- The states of the invariant: idle, with a first call in flight, and inside a request. -/
theorem witness_PositionInvariantKept :
    (offered (.request 0x07 Payload.zero cfgA) [.rx [0x0E]]).Inv ∧
      holds (step (offered (.request 0x07 Payload.zero cfgA) [.rx [0x0E]])) (fun t => !t.seq.busy) = true ∧
      (fresh []).Inv ∧
      State.Inv { inPD 1 [] with
        seq := { Seq.atReset with busy := true, k := 1, req := { Request.blank with op := 4, target := 1 } } } := by
  refine ⟨⟨.inl (by decide), by decide, by decide⟩, by decide, ⟨.inl (by decide), by decide, by decide⟩,
    ⟨.inr ⟨rfl, .transitionStandby, by decide, by decide⟩, ?_, by decide⟩⟩
  intro n h
  cases h
  decide

theorem witness_RunsNeverStop : State.reset.Inv := ⟨.inl (by decide), by decide, by decide⟩

theorem witness_RequestsRunTheirPseudocode : (inRX 0 []).seq.busy = true ∧ (inRX 0 []).seq.k = 0 := by decide

theorem witness_EveryRequestEnds : (inRX 0 []).PayloadModeOk ∧ (inRX 0 []).seq.busy = true ∧ (inRX 0 []).seq.k = 0 := by
  refine ⟨⟨?_, by decide⟩, by decide, by decide⟩
  intro n h
  cases h
  decide

/-- T8. -/
theorem witness_ModeInvariantsKept :
    (at' .standby 0x0E .dynamic .low 0 [.rx [0x0E, 0]] [.ok]).ModeOk ∧
      (at' .standby 0x0E .dynamic .low 0 [.rx [0x0E, 0]] [.ok]).seq.busy = true ∧
      rawConfigWrite .transitionReceive = false ∧
      holds (runRequest .transitionReceive 19 (at' .standby 0x0E .dynamic .low 0 [.rx [0x0E, 0]] [.ok]))
        (fun t => t.res.err = 0 && t.mode = .receive) = true :=
  ⟨⟨by decide, by decide, by decide, by decide, by decide, by decide⟩, by decide, by decide, by decide⟩

theorem witness_ModeMatchesChip :
    (inTX 0 []).ModeOk ∧ (inTX 0 []).configured = true ∧ (inTX 0 []).ceShadow = Level.high.shadow :=
  ⟨⟨by decide, by decide, by decide, by decide, by decide, by decide⟩, by decide, by decide⟩

end Sys2Proof.Tests
end

section
/-! PROOFS. Everything a step of a request of several calls can do, by its checks and `seq.k`; a request of one call is over after
its step. -/

namespace Sys2Proof.Machine

variable {s t : State}

/-! ## Sets of modes -/

theorem mode_isIn_idle (m : Mode) : m.isIn 0b0011 = true ↔ m = .powerDown ∨ m = .standby := by
  cases m <;> decide

theorem mode_isIn_tx (m : Mode) : m.isIn 0b0110 = true ↔ m = .standby ∨ m = .transmit := by
  cases m <;> decide

/-! ## Requests of several calls, by what their first check answers -/

/-- Everything a step of a transition can do (R150, R160). -/
theorem State.transition_cases {target : Mode} (h : s.transition target = .next t) :
    (∃ e, t = s.raise e) ∨
      ∃ calls, s.configured = true ∧ edgeCalls s.params s.mode target = some calls ∧
        s.runCalls calls (State.setMode target) = .next t := by
  unfold State.transition at h
  split at h
  · rename_i hc
    split at h
    · rename_i calls he
      exact .inr ⟨calls, hc, he, h⟩
    · cases h
      exact .inl ⟨_, rfl⟩
  · cases h
    exact .inl ⟨_, rfl⟩

/-- Everything a step of APPLY can do (R121): a check fails, or the call that `seq.k` names is made, the first one with the
choices of the pseudocode held. -/
theorem execApply_cases {cfg : Configuration} (h : execApply cfg s = .next t) :
    (s.seq.k = 0 ∧ ∃ e, t = s.raise e) ∨
      (s.seq.k = 0 ∧ s.applyRefusal cfg = none ∧ (s.applyChoices cfg).applyCall cfg = .next t) ∨
        (s.seq.k ≠ 0 ∧ s.applyCall cfg = .next t) := by
  unfold execApply at h
  split at h
  · rename_i hk
    split at h
    · cases h
      exact .inl ⟨hk, _, rfl⟩
    · rename_i hr
      exact .inr (.inl ⟨hk, hr, h⟩)
  · rename_i hk
    exact .inr (.inr ⟨hk, h⟩)

/-- Everything a step of WRITE_TX_PAYLOAD can do (R180). -/
theorem execWriteTxPayload_cases {noAck : Bool} {len : BitVec 6} {data : Payload}
    (h : execWriteTxPayload noAck len data s = .next t) :
    (∃ e, t = s.raise e) ∨
      (s.seq.k = 0 ∧ s.configured = true ∧ (∃ max, maxTx s.payloadMode = some max ∧ len.setWidth 8 ≤ max) ∧
        s.mode.isIn 0b0110 = true ∧ t = s.txStatusCall) ∨
      (s.seq.k = 1 ∧ t = s.xfer (txCommand noAck :: data.front len.toNat) fun _ u => u.succeed id) := by
  unfold execWriteTxPayload at h
  split at h
  · rename_i hk
    unfold State.txBegin at h
    split at h
    · rename_i hc
      split at h
      · cases h
      · rename_i max hmax
        split at h
        · cases h
          exact .inl ⟨_, rfl⟩
        · rename_i hlen
          split at h
          · rename_i hmode
            cases h
            exact .inr (.inl ⟨hk, hc, ⟨max, hmax, BitVec.not_lt.mp hlen⟩, hmode, rfl⟩)
          · cases h
            exact .inl ⟨_, rfl⟩
    · cases h
      exact .inl ⟨_, rfl⟩
  · split at h
    · rename_i hk
      cases h
      exact .inr (.inr ⟨hk, rfl⟩)
    · cases h

/-- Everything a step of READ_RX_PAYLOAD can do (R185). -/
theorem execReadRxPayload_cases {cap : BitVec 6} (h : execReadRxPayload cap s = .next t) :
    (∃ e, t = s.raise e) ∨ (s.seq.k = 0 ∧ s.configured = true ∧ t = s.rxStatusCall cap) ∨
      (s.seq.k = 1 ∧ (∀ n, s.payloadMode ≠ .static n) ∧ t = s.rxWidthCall cap) ∨
      ∃ len, t = s.rxPayloadCall len := by
  unfold execReadRxPayload at h
  split at h
  · rename_i hk
    split at h
    · rename_i hc
      cases h
      exact .inr (.inl ⟨hk, hc, rfl⟩)
    · cases h
      exact .inl ⟨_, rfl⟩
  · split at h
    · split at h
      · cases h
        exact .inr (.inr (.inr ⟨_, rfl⟩))
      · cases h
    · rename_i hstatic
      split at h
      · rename_i hk
        cases h
        exact .inr (.inr (.inl ⟨hk, hstatic, rfl⟩))
      · split at h
        · cases h
          exact .inr (.inr (.inr ⟨_, rfl⟩))
        · cases h

/-! ## Requests of one call -/

/-- The request has ended, and what only APPLY writes is as it was. -/
abbrev EndedPlainly (s t : State) : Prop :=
  t.Ended ∧ t.payloadMode = s.payloadMode ∧ t.configured = s.configured

theorem xfer_endedPlainly {tx : List Byte} {f : List Byte → State → State}
    (hf : ∀ rx, EndedPlainly s (f rx (s.received tx rx))) : EndedPlainly s (s.xfer tx f) := by
  obtain ⟨e, -, h⟩ | ⟨rx, -, -, h⟩ := s.xfer_cases tx f <;> rw [h]
  · exact ⟨⟨rfl, rfl⟩, rfl, rfl⟩
  · exact hf rx

theorem raise_endedPlainly (e : ReqError) (s : State) : EndedPlainly s (s.raise e) := ⟨⟨rfl, rfl⟩, rfl, rfl⟩

theorem sendRaw_endedPlainly (opcode : Byte) (data : List Byte) (s : State) :
    EndedPlainly s (s.sendRaw opcode data) :=
  xfer_endedPlainly fun _ => ⟨⟨rfl, rfl⟩, rfl, rfl⟩

theorem sendCommand_endedPlainly (opcode : Byte) (len : BitVec 6) (data : Payload) (s : State) :
    EndedPlainly s (s.sendCommand opcode len data) := by
  unfold State.sendCommand
  split
  · exact raise_endedPlainly ..
  · exact sendRaw_endedPlainly ..

theorem flush_endedPlainly (cmd : Byte) (s : State) : EndedPlainly s (s.flush cmd) := by
  unfold State.flush
  split
  · exact xfer_endedPlainly fun _ => ⟨⟨rfl, rfl⟩, rfl, rfl⟩
  · exact raise_endedPlainly ..

/-- Whether a request's pseudocode can make more than one capability call. -/
def severalCalls : Instr → Bool
  | .apply _ | .transitionPowerDown | .transitionStandby | .transitionTransmit | .transitionReceive
  | .writeTxPayload _ _ _ | .readRxPayload _ => true
  | _ => false

/-- A request of one call is over after its step. -/
theorem exec_oneCall {i : Instr} (hi : severalCalls i = false) (s : State) :
    ∃ t, exec i s = .next t ∧ EndedPlainly s t := by
  cases i with
  | apply _ | transitionPowerDown | transitionStandby | transitionTransmit | transitionReceive
  | writeTxPayload _ _ _ | readRxPayload _ => cases hi
  | readRegister addr => exact ⟨_, rfl, xfer_endedPlainly fun _ => ⟨⟨rfl, rfl⟩, rfl, rfl⟩⟩
  | writeRegister addr value =>
    exact ⟨_, rfl, xfer_endedPlainly fun _ => by split <;> exact ⟨⟨rfl, rfl⟩, rfl, rfl⟩⟩
  | sendCommand opcode len data => exact ⟨_, rfl, sendCommand_endedPlainly ..⟩
  | flushTx | flushRx => exact ⟨_, rfl, flush_endedPlainly ..⟩
  | _ => exact ⟨_, rfl, sendRaw_endedPlainly ..⟩

theorem exec_endedPlainly {i : Instr} (h : exec i s = .next t) (hi : severalCalls i = false) : EndedPlainly s t := by
  obtain ⟨u, hu, hend⟩ := exec_oneCall hi s
  cases hu.symm.trans h
  exact hend

/-- What spells no instruction is over after its step. -/
theorem execRejected_endedPlainly {r : Reject} (h : execRejected r s = .next t) : EndedPlainly s t := by
  cases r with
  | reservedOp op => cases h; exact raise_endedPlainly ..
  | undefinedCommand _ | dataCount _ _ => cases h; exact sendCommand_endedPlainly ..

end Sys2Proof.Machine
end

section
/-! PROOFS. Every step keeps the invariant of the sequencer's position and of the payload mode (O54). -/

namespace Sys2Proof.Machine

variable {s t : State}

/-! ## Where a step leaves a request of several calls -/

/-- After a step of `i` from `s`: the request has ended, or it goes on with its checks passed. -/
def LeftPlaced (i : Instr) (s t : State) : Prop :=
  t.seq.k = 0 ∨ (t.seq.busy = s.seq.busy ∧ t.seq.held = s.seq.held ∧ admitted i t = true)

theorem State.advance_held (s : State) : s.advance.seq.held = s.seq.held := rfl

/-- Where a call of a list leaves the sequencer: at 0, when it failed (or when its number does not fit in `seq.k`), after the
completion, or at the next call of the list. -/
theorem State.runCalls_position {calls : List Call} {done : State → State} (h : s.runCalls calls done = .next t) :
    (t.seq.k = 0 ∧ t.payloadMode = s.payloadMode ∧ t.configured = s.configured) ∨
      (∃ c rx, t = (done (s.called c rx)).succeed id) ∨
      ∃ c rx, calls[s.seq.k.toNat]? = some c ∧ t = (s.called c rx).advance ∧ t.seq.k.toNat < calls.length := by
  obtain ⟨c, hc, ⟨tx, e, rfl⟩ | ⟨l, e, rfl⟩ | ⟨rx, rfl⟩⟩ := State.runCalls_cases h
  · exact .inl ⟨rfl, rfl, rfl⟩
  · exact .inl ⟨rfl, rfl, rfl⟩
  · split
    · exact .inr (.inl ⟨c, rx, rfl⟩)
    · rename_i hlast
      by_cases hk : s.seq.k + 1 = 0
      · exact .inl (by simpa using hk)
      · obtain ⟨hlt, -⟩ := List.getElem?_eq_some_iff.mp hc
        refine .inr (.inr ⟨c, rx, hc, rfl, ?_⟩)
        have hsucc : (s.seq.k + 1).toNat = s.seq.k.toNat + 1 := by bv_omega
        simp only [advance_seq, called_seq, hsucc]
        omega

/-- A call that succeeded leaves the block in the same request. -/
theorem State.called_advance_held (c : Call) (rx : List Byte) (s : State) :
    (s.called c rx).advance.seq.held = s.seq.held := by
  rw [State.advance_held, State.called_seq]

/-- After a step of `i` from `s`: the block is placed, its payload mode legal. -/
abbrev Keeps (i : Instr) (s t : State) : Prop := LeftPlaced i s t ∧ t.PayloadModeOk

theorem State.PayloadModeOk.congr (h : s.PayloadModeOk) (hpm : t.payloadMode = s.payloadMode)
    (hc : t.configured = s.configured) : t.PayloadModeOk := by
  simpa [State.PayloadModeOk, hpm, hc] using h

theorem EndedPlainly.keeps {i : Instr} (hp : s.PayloadModeOk) (h : EndedPlainly s t) : Keeps i s t := by
  obtain ⟨⟨-, hk⟩, hpm, hc⟩ := h
  exact ⟨.inl hk, hp.congr hpm hc⟩

/-! ### The transitions -/

theorem transition_keeps {i : Instr} {target : Mode}
    (hi : ∀ u, admitted i u = (u.configured && admitted.onEdge target u)) (hp : s.PayloadModeOk)
    (h : s.transition target = .next t) : Keeps i s t := by
  obtain ⟨e, rfl⟩ | ⟨calls, hc, hedge, h⟩ := State.transition_cases h
  · exact (raise_endedPlainly e s).keeps hp
  · obtain ⟨hk, hpm, hcf⟩ | ⟨c, rx, rfl⟩ | ⟨c, rx, -, rfl, hk⟩ := State.runCalls_position h
    · exact ⟨.inl hk, hp.congr hpm hcf⟩
    · exact ⟨.inl rfl, hp.congr (by simp) (by simp)⟩
    · refine ⟨.inr ⟨by simp, s.called_advance_held c rx, ?_⟩, hp.congr (by simp) (by simp)⟩
      rw [hi]
      simpa [admitted.onEdge, hc, hedge] using hk

/-! ### APPLY -/

/-- APPLY drives CE only Low (R124). -/
theorem ceHigh_not_mem_applyCalls (p : Params) (cfg : Configuration) (d a : Bool) :
    Call.ce .high ∉ applyCalls p cfg d a := by
  unfold applyCalls registerWrites addressWrites sizingWrites
  cases d <;> cases a <;> cases cfg.pmDynamic <;> simp

/-- A call other than CE high leaves `ce_shadow` Low, and so does CE low wherever it was. -/
theorem State.called_ceShadow_low {c : Call} (rx : List Byte) (hc : c ≠ .ce .high)
    (h : s.ceShadow = .low ∨ c = .ce .low) : (s.called c rx).ceShadow = .low := by
  match c with
  | .ce .low => rfl
  | .ce .high => exact absurd rfl hc
  | .regWrite _ _ | .activate | .config _ _ | .wait _ => simpa [State.called] using h

/-- A Configuration that passes `Validate` has a legal static size (R123). -/
theorem staticSize_of_validate {cfg : Configuration} (h : validate cfg = none) :
    ¬(cfg.pmDynamic = false ∧ (cfg.pmStaticN = 0 ∨ 32 < cfg.pmStaticN)) := by
  unfold validate at h
  split_ifs at h
  assumption

/-- A Configuration that passes `Validate` leaves a legal payload mode (R123, R134). -/
theorem appliedPayloadMode_ok {cfg : Configuration} (h : validate cfg = none) :
    (∀ n, appliedPayloadMode cfg = .static n → 1 ≤ n ∧ n ≤ 32) ∧ appliedPayloadMode cfg ≠ .unset := by
  have hsize := staticSize_of_validate h
  unfold appliedPayloadMode
  cases hd : cfg.pmDynamic with
  | true => simp
  | false =>
    simp only [hd, true_and, not_or] at hsize
    obtain ⟨h0, h32⟩ := hsize
    refine ⟨fun n hn => ?_, by simp⟩
    cases hn
    constructor <;> bv_omega

/-- APPLY's checks pass, and CE is believed Low or the next call drives it Low (R121, R124). -/
def ApplyReady (cfg : Configuration) (s : State) : Prop :=
  validate cfg = none ∧ s.mode.isIn 0b0011 = true ∧
    (s.ceShadow = .low ∨ s.seq.k = 0 ∧ s.seq.ceDriven = true)

theorem applyRefusal_none {cfg : Configuration} (h : s.applyRefusal cfg = none) :
    validate cfg = none ∧ s.mode.isIn 0b0011 = true := by
  unfold State.applyRefusal at h
  split at h
  · cases h
  · rename_i hv
    split at h
    · exact ⟨hv, by assumption⟩
    · cases h

theorem applyChoices_ready {cfg : Configuration} (hk : s.seq.k = 0) (h : s.applyRefusal cfg = none) :
    ApplyReady cfg (s.applyChoices cfg) := by
  obtain ⟨hv, hm⟩ := applyRefusal_none h
  refine ⟨hv, hm, ?_⟩
  by_cases hce : s.ceShadow = .low
  · exact .inl hce
  · exact .inr ⟨hk, by simpa [State.applyChoices] using hce⟩

theorem admitted_apply_ready {cfg : Configuration} (h : admitted (.apply cfg) s = true) : ApplyReady cfg s := by
  simp only [admitted, Bool.and_eq_true, decide_eq_true_eq] at h
  obtain ⟨⟨⟨hv, hm⟩, hce⟩, -⟩ := h
  exact ⟨hv, hm, .inl hce⟩

theorem applyCall_keeps {cfg : Configuration} (hr : ApplyReady cfg s) (hp : s.PayloadModeOk)
    (h : s.applyCall cfg = .next t) : Keeps (.apply cfg) s t := by
  obtain ⟨hv, hm, hce⟩ := hr
  obtain ⟨hk, hpm, hcf⟩ | ⟨c, rx, rfl⟩ | ⟨c, rx, hcall, rfl, hk⟩ := State.runCalls_position h
  · exact ⟨.inl hk, hp.congr hpm hcf⟩
  · obtain ⟨hn, hset⟩ := appliedPayloadMode_ok hv
    exact ⟨.inl rfl, hn, fun _ => hset⟩
  · have hne : c ≠ .ce .high := fun heq =>
      ceHigh_not_mem_applyCalls _ _ _ _ (heq ▸ List.mem_of_getElem? hcall)
    have hlow : (s.called c rx).ceShadow = .low := by
      refine State.called_ceShadow_low rx hne (hce.imp_right fun ⟨hk0, hd⟩ => ?_)
      simpa [applyCalls, hk0, hd, eq_comm] using hcall
    refine ⟨.inr ⟨by simp, s.called_advance_held c rx, ?_⟩, hp.congr (by simp) (by simp)⟩
    simpa [admitted, hv, hlow] using And.intro hm hk

theorem execApply_keeps {cfg : Configuration} (hk : s.seq.k = 0 ∨ admitted (.apply cfg) s = true)
    (hp : s.PayloadModeOk) (h : execApply cfg s = .next t) : Keeps (.apply cfg) s t := by
  obtain ⟨-, e, rfl⟩ | ⟨hk0, hr, h⟩ | ⟨hk0, h⟩ := execApply_cases h
  · exact (raise_endedPlainly e s).keeps hp
  · exact applyCall_keeps (s := s.applyChoices cfg) (applyChoices_ready hk0 hr) hp h
  · exact applyCall_keeps (admitted_apply_ready (hk.resolve_left hk0)) hp h

/-! ### The payload requests -/

theorem xfer_keeps {i : Instr} {tx : List Byte} {f : List Byte → State → State} (hp : s.PayloadModeOk)
    (hf : ∀ rx, Keeps i s (f rx (s.received tx rx))) : Keeps i s (s.xfer tx f) := by
  obtain ⟨e, -, h⟩ | ⟨rx, -, -, h⟩ := s.xfer_cases tx f <;> rw [h]
  · exact EndedPlainly.keeps hp ⟨⟨rfl, rfl⟩, rfl, rfl⟩
  · exact hf rx

theorem execWriteTxPayload_keeps {noAck : Bool} {len : BitVec 6} {data : Payload} (hp : s.PayloadModeOk)
    (h : execWriteTxPayload noAck len data s = .next t) : Keeps (.writeTxPayload noAck len data) s t := by
  obtain ⟨e, rfl⟩ | ⟨hk, hc, ⟨max, hmax, hlen⟩, hm, rfl⟩ | ⟨-, rfl⟩ := execWriteTxPayload_cases h
  · exact (raise_endedPlainly e s).keeps hp
  · refine xfer_keeps hp fun rx => ?_
    split
    · exact EndedPlainly.keeps hp ⟨⟨rfl, rfl⟩, rfl, rfl⟩
    · exact ⟨.inr ⟨rfl, rfl, by simpa [admitted, hc, hk, hmax, hlen] using hm⟩, hp⟩
  · exact (xfer_endedPlainly fun _ => ⟨⟨rfl, rfl⟩, rfl, rfl⟩).keeps hp

/-- READ_RX_PAYLOAD goes on only with a length within the host's capacity (R189 (a)). -/
theorem rxLength_keeps {i : Instr} {cap : BitVec 6} {len : Byte} (hp : s.PayloadModeOk)
    (hi : len ≤ cap.setWidth 8 → admitted i s.advance = true) : Keeps i s (s.rxLength cap len) := by
  unfold State.rxLength
  split
  · exact (raise_endedPlainly _ s).keeps hp
  · rename_i hlen
    exact ⟨.inr ⟨rfl, rfl, hi (BitVec.not_lt.mp hlen)⟩, hp⟩

theorem rxStatusCall_keeps {cap : BitVec 6} (hp : s.PayloadModeOk) (hk : s.seq.k = 0) (hc : s.configured = true) :
    Keeps (.readRxPayload cap) s (s.rxStatusCall cap) := by
  refine xfer_keeps hp fun rx => ?_
  split
  · split
    · rename_i n hn
      have hn : s.payloadMode = .static n := hn
      refine rxLength_keeps hp fun hle => ?_
      have hle : n ≤ cap := by bv_omega
      simp [admitted, hc, hn, hk, hle]
    · rename_i hd
      have hd : s.payloadMode = .dynamic := hd
      exact ⟨.inr ⟨rfl, rfl, by simp [admitted, hc, hd, hk]⟩, hp⟩
    · rename_i hu
      exact absurd hu (hp.2 hc)
  · exact EndedPlainly.keeps hp ⟨⟨rfl, rfl⟩, rfl, rfl⟩

theorem rxWidthCall_keeps {cap : BitVec 6} (hp : s.PayloadModeOk) (hk : s.seq.k = 1) (hc : s.configured = true)
    (hd : s.payloadMode = .dynamic) : Keeps (.readRxPayload cap) s (s.rxWidthCall cap) := by
  refine xfer_keeps hp fun rx => ?_
  split
  · exact EndedPlainly.keeps hp ⟨⟨rfl, rfl⟩, rfl, rfl⟩
  · rename_i hw
    refine rxLength_keeps (s := (s.received _ rx).setSeq _) hp fun hle => ?_
    simpa [admitted, hc, hd, hk, hle] using BitVec.not_lt.mp hw

theorem admitted_readRx_configured {cap : BitVec 6} (h : admitted (.readRxPayload cap) s = true) :
    s.configured = true := by
  simp only [admitted, Bool.and_eq_true] at h
  exact h.1

theorem execReadRxPayload_keeps {cap : BitVec 6} (hk : s.seq.k = 0 ∨ admitted (.readRxPayload cap) s = true)
    (hp : s.PayloadModeOk) (h : execReadRxPayload cap s = .next t) : Keeps (.readRxPayload cap) s t := by
  obtain ⟨e, rfl⟩ | ⟨hk0, hc, rfl⟩ | ⟨hk1, hstatic, rfl⟩ | ⟨len, rfl⟩ := execReadRxPayload_cases h
  · exact (raise_endedPlainly e s).keeps hp
  · exact rxStatusCall_keeps hp hk0 hc
  · have hc : s.configured = true := admitted_readRx_configured (hk.resolve_left (by simp [hk1]))
    have hd : s.payloadMode = .dynamic := by
      cases hpm : s.payloadMode with
      | unset => exact absurd hpm (hp.2 hc)
      | static n => exact absurd hpm (hstatic n)
      | dynamic => rfl
    exact rxWidthCall_keeps hp hk1 hc hd
  · exact (xfer_endedPlainly fun _ => ⟨⟨rfl, rfl⟩, rfl, rfl⟩).keeps hp

/-! ## The invariant -/

theorem exec_keeps {i : Instr} (hk : s.seq.k = 0 ∨ admitted i s = true) (hp : s.PayloadModeOk)
    (h : exec i s = .next t) : Keeps i s t := by
  cases i with
  | apply cfg => exact execApply_keeps hk hp h
  | transitionPowerDown | transitionStandby | transitionTransmit | transitionReceive =>
    exact transition_keeps (fun _ => rfl) hp h
  | writeTxPayload noAck len data => exact execWriteTxPayload_keeps hp h
  | readRxPayload cap => exact execReadRxPayload_keeps hk hp h
  | _ => exact (exec_endedPlainly h rfl).keeps hp

/-- A step of what a busy block holds keeps the invariant. -/
theorem execHeld_keeps_inv (hb : s.seq.busy = true) (hi : s.Inv) (h : execHeld s.seq.held s = .next t) : t.Inv := by
  obtain ⟨hplaced, hp⟩ := hi
  cases hd : s.seq.held with
  | error r =>
    rw [hd] at h
    obtain ⟨⟨-, hk⟩, hpm, hc⟩ := execRejected_endedPlainly h
    exact ⟨.inl hk, hp.congr hpm hc⟩
  | ok i =>
    rw [hd] at h
    have hk : s.seq.k = 0 ∨ admitted i s = true := hplaced.imp_right fun ⟨_, j, hj, ha⟩ => by
      cases hd.symm.trans hj
      exact ha
    obtain ⟨hleft, hp'⟩ := exec_keeps hk hp h
    exact ⟨hleft.imp_right fun ⟨hb', hheld, ha⟩ => ⟨hb'.trans hb, i, hheld.trans hd, ha⟩, hp'⟩

/-- The state the block runs from has the invariant: a request just taken has made no call. -/
theorem State.fetch_inv {u : State} (hi : s.Inv) (h : s.fetch = some u) : u.seq.busy = true ∧ u.Inv := by
  obtain ⟨hb, rfl⟩ | ⟨-, o, rest, -, rfl⟩ := State.fetch_cases h
  · exact ⟨hb, hi⟩
  · exact ⟨rfl, .inl rfl, hi.2⟩

/-- Settles O54: a reset, and a request taken, leave `seq.k` at 0; every call leaves it at 0 or at a call whose request's
checks still hold. -/
theorem positionInvariantKept : Obligations.PositionInvariantKept := by
  intro s t hi h
  have hs : s.sampled.Inv := hi
  obtain ⟨-, rfl⟩ | ⟨-, ⟨-, rfl⟩ | ⟨u, v, hf, hv, rfl⟩⟩ := step_cases h
  · exact ⟨.inl rfl, by simp [State.takeReset, State.resetWith], by simp [State.takeReset, State.resetWith]⟩
  · exact hs
  · obtain ⟨hb, hu⟩ := State.fetch_inv hs hf
    split
    · exact hu
    · exact execHeld_keeps_inv hb hu hv

end Sys2Proof.Machine
end

section
/-! PROOFS. A step completes at most one capability call and writes no parameter (O50). -/

namespace Sys2Proof.Machine

variable {s t : State}

/-- From `s` to `t` no call was completed and no parameter written. -/
abbrev Silent (s t : State) : Prop := t.env.events = s.env.events ∧ t.params = s.params

/-- From `s` to `t` at most one call was completed and no parameter written. -/
def CallsOnce (s t : State) : Prop :=
  (t.env.events = s.env.events ∨ ∃ ev, t.env.events = ev :: s.env.events) ∧ t.params = s.params

theorem Silent.callsOnce (h : Silent s t) : CallsOnce s t := ⟨.inl h.1, h.2⟩

theorem Silent.trans_callsOnce {u : State} (hu : Silent s u) (h : CallsOnce u t) : CallsOnce s t := by
  obtain ⟨hev, hp⟩ := hu
  rwa [CallsOnce, hev, hp] at h

/-- A call whose event is `ev`, with no other after it. -/
theorem CallsOnce.of_event {u : State} {ev : Event} (hev : u.env.events = ev :: s.env.events) (hp : u.params = s.params)
    (h : Silent u t) : CallsOnce s t :=
  ⟨.inr ⟨ev, h.1.trans hev⟩, h.2.trans hp⟩

theorem raise_silent (e : ReqError) (s : State) : Silent s (s.raise e) := ⟨rfl, rfl⟩

theorem xfer_callsOnce {tx : List Byte} {f : List Byte → State → State}
    (hf : ∀ rx, Silent (s.received tx rx) (f rx (s.received tx rx))) : CallsOnce s (s.xfer tx f) := by
  obtain ⟨e, -, h⟩ | ⟨rx, -, -, h⟩ := s.xfer_cases tx f <;> rw [h]
  · exact .of_event (u := s.busFailed tx e) rfl rfl ⟨rfl, rfl⟩
  · exact .of_event (u := s.received tx rx) rfl rfl (hf rx)

/-- A successful call adds its one event to the trace. -/
theorem State.called_events (c : Call) (rx : List Byte) (s : State) :
    ∃ ev, (s.called c rx).env.events = ev :: s.env.events := by
  cases c <;> exact ⟨_, rfl⟩

theorem runCalls_callsOnce {calls : List Call} {done : State → State} (h : s.runCalls calls done = .next t)
    (hdone : ∀ u, Silent u (done u)) : CallsOnce s t := by
  obtain ⟨c, -, ⟨tx, e, rfl⟩ | ⟨l, e, rfl⟩ | ⟨rx, rfl⟩⟩ := State.runCalls_cases h
  · exact ⟨.inr ⟨_, rfl⟩, rfl⟩
  · exact ⟨.inr ⟨_, rfl⟩, rfl⟩
  · obtain ⟨ev, hev⟩ := s.called_events c rx
    refine .of_event hev (by simp) ?_
    split
    · exact hdone _
    · exact ⟨rfl, rfl⟩

/-! ## One call per step -/

theorem rxLength_silent (cap : BitVec 6) (len : Byte) (s : State) : Silent s (s.rxLength cap len) := by
  unfold State.rxLength
  split <;> exact ⟨rfl, rfl⟩

theorem txStatusCall_callsOnce (s : State) : CallsOnce s s.txStatusCall :=
  xfer_callsOnce fun rx => by split <;> exact ⟨rfl, rfl⟩

theorem rxStatusCall_callsOnce (cap : BitVec 6) (s : State) : CallsOnce s (s.rxStatusCall cap) :=
  xfer_callsOnce fun rx => by
    split
    · split
      · exact rxLength_silent ..
      · exact ⟨rfl, rfl⟩
      · exact ⟨rfl, rfl⟩
    · exact ⟨rfl, rfl⟩

theorem rxWidthCall_callsOnce (cap : BitVec 6) (s : State) : CallsOnce s (s.rxWidthCall cap) :=
  xfer_callsOnce fun rx => by
    split
    · exact ⟨rfl, rfl⟩
    · exact rxLength_silent ..

theorem sendRaw_callsOnce (opcode : Byte) (data : List Byte) (s : State) : CallsOnce s (s.sendRaw opcode data) :=
  xfer_callsOnce fun _ => ⟨rfl, rfl⟩

theorem sendCommand_callsOnce (opcode : Byte) (len : BitVec 6) (data : Payload) (s : State) :
    CallsOnce s (s.sendCommand opcode len data) := by
  unfold State.sendCommand
  split
  · exact (raise_silent ..).callsOnce
  · exact sendRaw_callsOnce ..

theorem flush_callsOnce (cmd : Byte) (s : State) : CallsOnce s (s.flush cmd) := by
  unfold State.flush
  split
  · exact xfer_callsOnce fun _ => ⟨rfl, rfl⟩
  · exact (raise_silent ..).callsOnce

theorem exec_callsOnce {i : Instr} (h : exec i s = .next t) : CallsOnce s t := by
  cases i with
  | apply cfg =>
    obtain ⟨-, e, rfl⟩ | ⟨-, -, h⟩ | ⟨-, h⟩ := execApply_cases h
    · exact (raise_silent ..).callsOnce
    · exact runCalls_callsOnce (s := s.applyChoices cfg) h fun _ => ⟨rfl, rfl⟩
    · exact runCalls_callsOnce h fun _ => ⟨rfl, rfl⟩
  | transitionPowerDown | transitionStandby | transitionTransmit | transitionReceive =>
    obtain ⟨e, rfl⟩ | ⟨calls, -, -, h⟩ := State.transition_cases h
    · exact (raise_silent ..).callsOnce
    · exact runCalls_callsOnce h fun _ => ⟨rfl, rfl⟩
  | writeTxPayload noAck len data =>
    obtain ⟨e, rfl⟩ | ⟨-, -, -, -, rfl⟩ | ⟨-, rfl⟩ := execWriteTxPayload_cases h
    · exact (raise_silent ..).callsOnce
    · exact txStatusCall_callsOnce s
    · exact xfer_callsOnce fun _ => ⟨rfl, rfl⟩
  | readRxPayload cap =>
    obtain ⟨e, rfl⟩ | ⟨-, -, rfl⟩ | ⟨-, -, rfl⟩ | ⟨len, rfl⟩ := execReadRxPayload_cases h
    · exact (raise_silent ..).callsOnce
    · exact rxStatusCall_callsOnce cap s
    · exact rxWidthCall_callsOnce cap s
    · exact xfer_callsOnce fun _ => ⟨rfl, rfl⟩
  | readRegister addr => cases h; exact xfer_callsOnce fun _ => ⟨rfl, rfl⟩
  | writeRegister addr value =>
    cases h
    exact xfer_callsOnce fun _ => by split <;> exact ⟨rfl, rfl⟩
  | sendCommand opcode len data => cases h; exact sendCommand_callsOnce ..
  | flushTx | flushRx => cases h; exact flush_callsOnce ..
  | _ => cases h; exact sendRaw_callsOnce ..

theorem execHeld_callsOnce {d : Except Reject Instr} (h : execHeld d s = .next t) : CallsOnce s t := by
  match d with
  | .ok i => exact exec_callsOnce h
  | .error (.reservedOp _) => cases h; exact (raise_silent ..).callsOnce
  | .error (.undefinedCommand _) | .error (.dataCount _ _) => cases h; exact sendCommand_callsOnce ..

/-- Taking an offer makes no call. -/
theorem State.fetch_silent {u : State} (h : s.fetch = some u) : Silent s u := by
  obtain ⟨-, rfl⟩ | ⟨-, o, rest, -, rfl⟩ := State.fetch_cases h <;> exact ⟨rfl, rfl⟩

/-- Settles O50: the reset is one event; every other step is that of what is held, or nothing yet. -/
theorem oneCallPerStep : Obligations.OneCallPerStep := by
  intro s t h
  show CallsOnce s t
  obtain ⟨-, rfl⟩ | ⟨-, ⟨-, rfl⟩ | ⟨u, v, hf, hv, rfl⟩⟩ := step_cases h
  · exact ⟨.inr ⟨_, rfl⟩, rfl⟩
  · exact ⟨.inl rfl, rfl⟩
  · have hu : Silent s.sampled u := State.fetch_silent hf
    split
    · exact hu.callsOnce
    · exact Silent.trans_callsOnce (s := s) hu (execHeld_callsOnce hv)

end Sys2Proof.Machine
end

section
/-! PROOFS. A request run call by call comes to what its pseudocode gives (O57). -/

namespace Sys2Proof.Machine

variable {s t : State} {i : Instr} {n : Nat}

/-! ## Running a request on from the outcome of a step -/

/-- What is left of a run after a step: nothing when the request has ended, else at most `n` steps more. -/
def proceed (i : Instr) (n : Nat) (o : Host.Outcome State Fault Refusal) : Host.Outcome State Fault Refusal :=
  match o with
  | .next t => if t.seq.busy then runRequest i n t else .next t
  | .fault r => .fault r
  | .refused r => .refused r

theorem runRequest_succ (i : Instr) (n : Nat) (s : State) : runRequest i (n + 1) s = proceed i n (exec i s) := by
  unfold runRequest proceed
  cases exec i s <;> rfl

theorem proceed_ended (h : t.seq.busy = false) : proceed i n (.next t) = .next t := by simp [proceed, h]

/-- A request that is not over goes on with its next step. -/
theorem proceed_advance (h : t.seq.busy = true) :
    proceed i (n + 1) (.next t.advance) = proceed i n (exec i t.advance) := by
  rw [← runRequest_succ]
  simp [proceed, h]

/-- A transaction that fails ends the run; one that returns leaves the rest of the run to what follows it. -/
theorem proceed_xfer {tx : List Byte} {f g : List Byte → State → State}
    (h : ∀ rx, proceed i n (.next (f rx (s.received tx rx))) = .next (g rx (s.received tx rx))) :
    proceed i n (.next (s.xfer tx f)) = .next (s.xfer tx g) := by
  cases hr : s.spiReply tx.length with
  | error e =>
    rw [State.xfer_error f hr, State.xfer_error g hr]
    exact proceed_ended rfl
  | ok rx =>
    rw [State.xfer_ok f hr, State.xfer_ok g hr]
    exact h rx

theorem proceed_setCe {l : Level} {f g : State → State}
    (h : proceed i n (.next (f (s.called (.ce l) []))) = .next (g (s.called (.ce l) []))) :
    proceed i n (.next (s.setCe l f)) = .next (s.setCe l g) := by
  unfold State.setCe
  cases s.pinReply with
  | some e => exact proceed_ended rfl
  | none => exact h

/-- The same of a call of a list. -/
theorem proceed_perform {c : Call} {f g : State → State}
    (h : ∀ rx, proceed i n (.next (f (s.called c rx))) = .next (g (s.called c rx))) :
    proceed i n (.next (s.perform c f)) = .next (s.perform c g) := by
  cases c with
  | ce l => exact proceed_setCe (h [])
  | wait us => exact h []
  | regWrite a v => exact proceed_xfer h
  | activate =>
    simp only [State.perform]
    exact proceed_xfer h
  | config keep set =>
    simp only [State.perform, State.regWrite]
    exact proceed_xfer h

/-! ## The pseudocode does not count its calls: `seq.k` makes no difference to it -/

theorem State.xfer_advance {tx : List Byte} {f : List Byte → State → State} (hf : ∀ rx u, f rx u.advance = f rx u) :
    s.advance.xfer tx f = s.xfer tx f := by
  have hreply : s.advance.spiReply tx.length = s.spiReply tx.length := rfl
  unfold State.xfer
  rw [hreply]
  cases s.spiReply tx.length with
  | error e => rfl
  | ok rx => exact hf rx (s.received tx rx)

theorem State.setCe_advance {l : Level} {f : State → State} (hf : ∀ u, f u.advance = f u) :
    s.advance.setCe l f = s.setCe l f := by
  have hreply : s.advance.pinReply = s.pinReply := rfl
  unfold State.setCe
  rw [hreply]
  cases s.pinReply with
  | some e => rfl
  | none => exact hf (s.called (.ce l) [])

theorem State.perform_advance {c : Call} {f : State → State} (hf : ∀ u, f u.advance = f u) :
    s.advance.perform c f = s.perform c f := by
  cases c with
  | ce l => exact State.setCe_advance hf
  | wait us => exact hf (s.delay us)
  | regWrite a v => exact State.xfer_advance fun _ => hf
  | activate =>
    simp only [State.perform]
    exact State.xfer_advance fun _ u => hf (u.setFeaturesActive (!u.featuresActive))
  | config keep set =>
    simp only [State.perform, State.regWrite]
    exact State.xfer_advance fun _ u => hf (u.setConfigShadow (configValue keep set s.configShadow))

theorem State.performAll_advance {done : State → State} (hdone : ∀ u, done u.advance = (done u).advance)
    (cs : List Call) (s : State) : State.performAll cs done s.advance = State.performAll cs done s := by
  induction cs generalizing s with
  | nil =>
    change (done s.advance).succeed id = (done s).succeed id
    rw [hdone]
    rfl
  | cons c cs ih => exact State.perform_advance ih

/-! ## A list of calls, one a step and all at once -/

/-- `u` is in the request that `s` is in: the registers that its later steps look at again are the same. -/
def SameRequest (s u : State) : Prop :=
  u.mode = s.mode ∧ u.configured = s.configured ∧ u.params = s.params ∧
    u.seq.ceDriven = s.seq.ceDriven ∧ u.seq.activating = s.seq.activating

theorem SameRequest.refl (s : State) : SameRequest s s := ⟨rfl, rfl, rfl, rfl, rfl⟩

theorem SameRequest.called_advance {u : State} (h : SameRequest s u) (c : Call) (rx : List Byte) :
    SameRequest s (u.called c rx).advance := by
  simpa [SameRequest] using h

theorem State.runCalls_of_getElem {calls : List Call} {c : Call} (done : State → State)
    (hc : calls[s.seq.k.toNat]? = some c) :
    s.runCalls calls done =
      .next (s.perform c fun u => if s.seq.k.toNat + 1 = calls.length then (done u).succeed id else u.advance) := by
  simp only [State.runCalls, hc]

/-- Of the request that `s` begins: its later steps make the calls of `calls`, which `seq.k` can count, and its completion does
not look at `seq.k`. -/
structure StepsThrough (i : Instr) (calls : List Call) (done : State → State) (s : State) : Prop where
  countable : calls.length < 32
  exec_eq : ∀ u, SameRequest s u → u.seq.k ≠ 0 → exec i u = u.runCalls calls done
  done_advance : ∀ u, done u.advance = (done u).advance

/-- A request whose calls are `pre ++ c :: cs`, of which it has made `pre`, comes to what the others made one after the other
give. -/
theorem StepsThrough.proceed_rest {calls : List Call} {done : State → State} (hst : StepsThrough i calls done s)
    {c : Call} {cs pre : List Call} (hcalls : calls = pre ++ c :: cs) (hn : cs.length ≤ n) {u : State}
    (hk : u.seq.k.toNat = pre.length) (hu : SameRequest s u) (hb : u.seq.busy = true) :
    proceed i n (u.runCalls calls done) = .next (State.performAll (c :: cs) done u) := by
  induction cs generalizing c pre n u with
  | nil =>
    rw [State.runCalls_of_getElem (c := c) done (by simp [hcalls, hk])]
    refine proceed_perform fun rx => ?_
    rw [if_pos (by simp [hcalls, hk])]
    exact proceed_ended rfl
  | cons c' cs ih =>
    rw [State.runCalls_of_getElem (c := c) done (by simp [hcalls, hk])]
    refine proceed_perform fun rx => ?_
    rw [if_neg (by simp [hcalls, hk])]
    obtain ⟨m, rfl⟩ : ∃ m, n = m + 1 := Nat.exists_eq_succ_of_ne_zero (by simp at hn; omega)
    have hlen := hst.countable
    simp only [hcalls, List.length_append, List.length_cons] at hlen
    have hk' : (u.seq.k + 1).toNat = pre.length + 1 := by bv_omega
    have hne : u.seq.k + 1 ≠ 0 := by bv_omega
    have hu' := hu.called_advance c rx
    rw [proceed_advance (by simpa using hb), hst.exec_eq _ hu' (by simpa using hne),
      ih (c := c') (pre := pre ++ [c]) (by simp [hcalls]) (by simpa using hn) (by simpa using hk') hu' (by simpa using hb),
      State.performAll_advance hst.done_advance]

/-- A request run from its first call comes to what its calls made one after the other give. -/
theorem StepsThrough.proceed_all {calls : List Call} {done : State → State} (hst : StepsThrough i calls done s)
    (hne : calls ≠ []) (hn : calls.length ≤ n + 1) (hk : s.seq.k = 0) (hb : s.seq.busy = true) :
    proceed i n (s.runCalls calls done) = .next (State.performAll calls done s) := by
  cases calls with
  | nil => exact absurd rfl hne
  | cons c cs => exact hst.proceed_rest (pre := []) rfl (by simpa using hn) (by simp [hk]) (.refl s) hb

/-! ## The requests of several calls -/

theorem addressWrites_length (cfg : Configuration) : (addressWrites cfg).length ≤ 6 := by
  have h := List.length_filter_le (fun p => (cfg.pipe p).enabled) upperPipes
  have h4 : upperPipes.length = 4 := rfl
  unfold addressWrites
  simp only [List.length_append, List.length_map]
  split <;> split <;> simp <;> omega

theorem sizingWrites_length (p : Params) (cfg : Configuration) (a : Bool) : (sizingWrites p cfg a).length ≤ 6 := by
  unfold sizingWrites
  cases cfg.pmDynamic <;> cases a <;> simp [allPipes]

/-- An APPLY makes at most 19 calls (R135). -/
theorem applyCalls_length (p : Params) (cfg : Configuration) (d a : Bool) : (applyCalls p cfg d a).length ≤ 19 := by
  have ha := addressWrites_length cfg
  have hs := sizingWrites_length p cfg a
  cases d <;> simp [applyCalls, registerWrites] <;> omega

/-- An APPLY makes at least one call: CONFIG's. -/
theorem applyCalls_ne_nil (p : Params) (cfg : Configuration) (d a : Bool) : applyCalls p cfg d a ≠ [] :=
  List.append_ne_nil_of_right_ne_nil _ (List.cons_ne_nil _ _)

theorem apply_stepsThrough (cfg : Configuration) (s : State) :
    StepsThrough (.apply cfg) (applyCalls s.params cfg s.seq.ceDriven s.seq.activating) (State.applyDone cfg) s where
  countable := (applyCalls_length ..).trans_lt (by decide)
  exec_eq u hu hne := by
    obtain ⟨-, -, hp, hd, ha⟩ := hu
    change execApply cfg u = _
    rw [execApply, if_neg hne, State.applyCall, hp, hd, ha]
  done_advance _ := rfl

theorem runRequest_apply (cfg : Configuration) (hb : s.seq.busy = true) (hk : s.seq.k = 0) :
    runRequest (.apply cfg) 19 s = .next (pseudoApply cfg s) := by
  rw [runRequest_succ]
  change proceed _ 18 (execApply cfg s) = _
  rw [execApply, if_pos hk, pseudoApply, State.applyRefusal]
  cases validate cfg with
  | some reason => exact proceed_ended rfl
  | none =>
    by_cases hm : s.mode = .powerDown ∨ s.mode = .standby
    · simp only [(mode_isIn_idle _).mpr hm, if_pos hm, if_true]
      rw [State.applyCall, (apply_stepsThrough cfg (s.applyChoices cfg)).proceed_all (applyCalls_ne_nil _ _ _ _)
        (applyCalls_length ..) hk hb]
      by_cases hce : s.ceShadow = .low <;> simp [applyCalls, State.applyChoices, hce, applyKeep]
    · simp only [mt (mode_isIn_idle _).mp hm, if_neg hm]
      exact proceed_ended rfl

/-- Every edge has one call to three. -/
theorem edgeCalls_length {p : Params} {m target : Mode} {calls : List Call} (h : edgeCalls p m target = some calls) :
    calls ≠ [] ∧ calls.length ≤ 3 := by
  cases m <;> cases target <;> cases h <;> simp

theorem transition_stepsThrough {target : Mode} {calls : List Call} (hi : ∀ u, exec i u = u.transition target)
    (hc : s.configured = true) (hedge : edgeCalls s.params s.mode target = some calls) :
    StepsThrough i calls (State.setMode target) s where
  countable := (edgeCalls_length hedge).2.trans_lt (by decide)
  exec_eq u hu _ := by
    obtain ⟨hm, hcf, hp, -, -⟩ := hu
    rw [hi, State.transition, if_pos (hcf.trans hc), hm, hp, hedge]
  done_advance _ := rfl

theorem runRequest_transition {target : Mode} (hi : ∀ u, exec i u = u.transition target) (hb : s.seq.busy = true)
    (hk : s.seq.k = 0) : runRequest i 19 s = .next (pseudoTransition target s) := by
  rw [runRequest_succ, hi, State.transition, pseudoTransition]
  cases hc : s.configured with
  | false => exact proceed_ended rfl
  | true =>
    cases hedge : edgeCalls s.params s.mode target with
    | none => exact proceed_ended rfl
    | some calls =>
      obtain ⟨hne, hlen⟩ := edgeCalls_length hedge
      exact (transition_stepsThrough hi hc hedge).proceed_all hne (hlen.trans (by decide)) hk hb

/-- WRITE_TX_PAYLOAD from its status read on (R182, R183). -/
theorem proceed_txStatusCall {noAck : Bool} {len : BitVec 6} {data : Payload} (hb : s.seq.busy = true)
    (hk : s.seq.k = 0) :
    proceed (.writeTxPayload noAck len data) (n + 1) (.next s.txStatusCall) =
      .next (s.regRead 0x07 1 fun r t =>
        if txFull (byteAt r 1) then t.raise .fifoFull
        else t.xfer ((if noAck then 0xB0 else 0xA0) :: data.front len.toNat) fun _ u => u.succeed id) := by
  refine proceed_xfer fun rx => ?_
  by_cases hfull : txFull (byteAt rx 1) = true
  · simp only [if_pos hfull]
    exact proceed_ended rfl
  · simp only [if_neg hfull]
    rw [proceed_advance (by simpa using hb)]
    change proceed _ n (execWriteTxPayload noAck len data _) = _
    rw [execWriteTxPayload, if_neg (by simp [hk]), if_pos (by simp [hk]),
      State.xfer_advance (s := s.received _ rx) fun _ _ => rfl]
    exact proceed_xfer fun _ => proceed_ended rfl

theorem runRequest_writeTx (noAck : Bool) (len : BitVec 6) (data : Payload) (hb : s.seq.busy = true)
    (hk : s.seq.k = 0) :
    runRequest (.writeTxPayload noAck len data) 19 s = pseudoWriteTx noAck len data s := by
  rw [runRequest_succ]
  change proceed _ 18 (execWriteTxPayload noAck len data s) = _
  rw [execWriteTxPayload, if_pos hk, State.txBegin, pseudoWriteTx]
  cases s.configured with
  | false => exact proceed_ended rfl
  | true =>
    cases maxTx s.payloadMode with
    | none => rfl
    | some max =>
      by_cases hlen : max < len.setWidth 8
      · simp only [if_pos hlen]
        exact proceed_ended rfl
      · by_cases hm : s.mode = .standby ∨ s.mode = .transmit
        · simp only [if_neg hlen, (mode_isIn_tx _).mpr hm, if_neg (not_not.mpr hm)]
          exact proceed_txStatusCall hb hk
        · simp only [if_neg hlen, mt (mode_isIn_tx _).mp hm, if_pos hm]
          exact proceed_ended rfl

/-- READ_RX_PAYLOAD once the length is known: the check against the host's capacity and the payload read (R188, R189 (a)). -/
def rxRead (cap : BitVec 6) (len : Byte) (s : State) : State :=
  if cap.setWidth 8 < len then s.raise (.payloadTooLarge len (cap.setWidth 8)) else s.rxPayloadCall len

theorem rxRead_advance (cap : BitVec 6) (len : Byte) (s : State) : rxRead cap len s.advance = rxRead cap len s := by
  unfold rxRead
  split
  · rfl
  · exact State.xfer_advance (s := s) fun _ _ => rfl

/-- The width read under Dynamic and what follows it (R187). -/
def rxReadDynamic (cap : BitVec 6) (s : State) : State :=
  s.xfer [0x60, s.params.dummy] fun w u =>
    if 32 < byteAt w 1 then u.raise (.payloadTooLarge (byteAt w 1) 32)
    else rxRead cap (byteAt w 1) (u.setSeq { u.seq with width := byteAt w 1 })

theorem rxReadDynamic_advance (cap : BitVec 6) (s : State) : rxReadDynamic cap s.advance = rxReadDynamic cap s :=
  State.xfer_advance (s := s) fun w u => by
    split
    · rfl
    · exact rxRead_advance cap (byteAt w 1) (u.setSeq { u.seq with width := byteAt w 1 })

/-- What follows the status read (R186). -/
def rxAfterStatus (cap : BitVec 6) (r : List Byte) (s : State) : State :=
  if rxAvailable (byteAt r 1) = false then s.raise .fifoEmpty
  else
    match s.payloadMode with
    | .static n => rxRead cap (n.setWidth 8) s
    | _ => rxReadDynamic cap s

/-- READ_RX_PAYLOAD's pseudocode, in those words (R185). -/
theorem pseudoReadRx_eq (cap : BitVec 6) (s : State) :
    pseudoReadRx cap s =
      if s.configured = false then s.raise (.configError .notConfigured)
      else s.regRead 0x07 1 (rxAfterStatus cap) := rfl

/-! ### The later steps of READ_RX_PAYLOAD -/

theorem execReadRxPayload_static {cap m : BitVec 6} (hk : s.seq.k = 1) (hpm : s.payloadMode = .static m) :
    execReadRxPayload cap s = .next (s.rxPayloadCall (m.setWidth 8)) := by
  simp [execReadRxPayload, hk, hpm]

theorem execReadRxPayload_width {cap : BitVec 6} (hk : s.seq.k = 1) (hpm : ∀ m, s.payloadMode ≠ .static m) :
    execReadRxPayload cap s = .next (s.rxWidthCall cap) := by
  cases h : s.payloadMode with
  | static m => exact absurd h (hpm m)
  | unset | dynamic => simp [execReadRxPayload, hk, h]

theorem execReadRxPayload_read {cap : BitVec 6} (hk : s.seq.k = 2) (hpm : ∀ m, s.payloadMode ≠ .static m) :
    execReadRxPayload cap s = .next (s.rxPayloadCall s.seq.width) := by
  cases h : s.payloadMode with
  | static m => exact absurd h (hpm m)
  | unset | dynamic => simp [execReadRxPayload, hk, h]

theorem proceed_rxLength {cap : BitVec 6} {len : Byte} (hb : s.seq.busy = true)
    (hnext : execReadRxPayload cap s.advance = .next (s.advance.rxPayloadCall len)) :
    proceed (.readRxPayload cap) (n + 1) (.next (s.rxLength cap len)) = .next (rxRead cap len s) := by
  rw [State.rxLength, rxRead]
  split
  · exact proceed_ended rfl
  · rw [proceed_advance hb]
    change proceed _ n (execReadRxPayload cap s.advance) = _
    rw [hnext, State.rxPayloadCall, State.xfer_advance fun _ _ => rfl]
    exact proceed_xfer fun _ => proceed_ended rfl

/-- READ_RX_PAYLOAD from its width read on. -/
theorem proceed_rxWidth {cap : BitVec 6} (hb : s.seq.busy = true) (hk : s.seq.k = 0)
    (hstatic : ∀ m, s.payloadMode ≠ .static m) :
    proceed (.readRxPayload cap) (n + 2) (.next s.advance) = .next (rxReadDynamic cap s) := by
  rw [proceed_advance hb, ← rxReadDynamic_advance]
  change proceed _ (n + 1) (execReadRxPayload cap s.advance) = _
  rw [execReadRxPayload_width (s := s.advance) (by simp [hk]) hstatic]
  refine proceed_xfer fun rx => ?_
  by_cases hw : 32 < byteAt rx 1
  · simp only [if_pos hw]
    exact proceed_ended rfl
  · simp only [if_neg hw]
    exact proceed_rxLength hb (execReadRxPayload_read (by simp [hk]) hstatic)

/-- READ_RX_PAYLOAD from its status read on (R186). -/
theorem proceed_rxStatusCall {cap : BitVec 6} (hb : s.seq.busy = true) (hk : s.seq.k = 0) :
    proceed (.readRxPayload cap) (n + 2) (.next (s.rxStatusCall cap)) =
      .next (s.regRead 0x07 1 (rxAfterStatus cap)) := by
  refine proceed_xfer fun rx => ?_
  unfold rxAfterStatus
  cases rxAvailable (byteAt rx 1) with
  | false => exact proceed_ended rfl
  | true =>
    simp only [if_true, State.received_payloadMode, Bool.true_eq_false, if_false]
    cases hpm : s.payloadMode with
    | static m => exact proceed_rxLength hb (execReadRxPayload_static (by simp [hk]) hpm)
    | unset | dynamic => exact proceed_rxWidth hb hk (by simp [hpm])

theorem runRequest_readRx (cap : BitVec 6) (hb : s.seq.busy = true) (hk : s.seq.k = 0) :
    runRequest (.readRxPayload cap) 19 s = .next (pseudoReadRx cap s) := by
  rw [runRequest_succ, pseudoReadRx_eq]
  change proceed _ 18 (execReadRxPayload cap s) = _
  rw [execReadRxPayload, if_pos hk]
  cases s.configured with
  | false => exact proceed_ended rfl
  | true => exact proceed_rxStatusCall hb hk

/-- A request of one call comes to what its one step gives. -/
theorem runRequest_oneCall (hi : severalCalls i = false) (s : State) : runRequest i (n + 1) s = exec i s := by
  obtain ⟨t, ht, ⟨hb, -⟩, -⟩ := exec_oneCall hi s
  rw [runRequest_succ, ht]
  exact proceed_ended hb

/-- Settles O57, request by request: those of several calls each by its own lemma, the rest in their one step. -/
theorem requestsRunTheirPseudocode : Obligations.RequestsRunTheirPseudocode := by
  intro i s hb hk
  cases i with
  | apply cfg => exact runRequest_apply cfg hb hk
  | transitionPowerDown | transitionStandby | transitionTransmit | transitionReceive =>
    exact runRequest_transition (fun _ => rfl) hb hk
  | writeTxPayload noAck len data => exact runRequest_writeTx noAck len data hb hk
  | readRxPayload cap => exact runRequest_readRx cap hb hk
  | _ => exact runRequest_oneCall rfl s

end Sys2Proof.Machine
end

section
/-! PROOFS. The settle times of the edges to Standby and to TransmitMode (O38). -/

namespace Sys2Proof.Machine

variable {s t : State} {i : Instr} {n : Nat}

/-- A call of a list that ends with success was followed by the rest. -/
theorem State.performAll_cons_ok {c : Call} {cs : List Call} {done : State → State}
    (h : (State.performAll (c :: cs) done s).res.err = 0) :
    ∃ rx, State.performAll (c :: cs) done s = State.performAll cs done (s.called c rx) := by
  obtain ⟨tx, e, hf⟩ | ⟨l, e, hf⟩ | ⟨rx, hok⟩ := s.perform_cases c (State.performAll cs done)
  · rw [State.performAll, hf] at h
    simp [ReqError.code] at h
  · rw [State.performAll, hf, State.pinFailed] at h
    simp [ReqError.code] at h
  · exact ⟨rx, hok⟩

theorem waits_of_boundsOk {p : Params} (h : Config.boundsOk p = true) : 1500 ≤ p.tPd2Stby ∧ 10 ≤ p.tCeHigh := by
  simpa [Config.boundsOk] using h

/-- A legal edge run to its end is its calls, one after the other. -/
theorem runRequest_edge {target : Mode} {calls : List Call} (hi : ∀ u, exec i u = u.transition target)
    (hb : s.seq.busy = true) (hk : s.seq.k = 0) (hc : s.configured = true)
    (hedge : edgeCalls s.params s.mode target = some calls) (h : runRequest i 19 s = .next t) :
    t = State.performAll calls (State.setMode target) s := by
  rw [runRequest_transition hi hb hk] at h
  cases h
  simp [pseudoTransition, hc, hedge]

/-- CONFIG's command byte is 0x20, and PWR_UP is set beside the shadow's other bits (R151). -/
theorem powerUp_write (shadow : Byte) :
    [cmdWRegister ChipReg.config.addr, configValue 0xFF cfgPwrUp shadow] = [0x20, shadow ||| 0x02] := by
  have hkeep : shadow &&& 0xFF = shadow := BitVec.and_allOnes
  rw [configValue, hkeep]
  rfl

/-- PRIM_RX is cleared, the shadow's other bits kept (R152). -/
theorem primTx_write (shadow : Byte) :
    [cmdWRegister ChipReg.config.addr, configValue (~~~cfgPrimRx) 0 shadow] = [0x20, shadow &&& 0xFE] := by
  have hset : (shadow &&& ~~~cfgPrimRx) ||| 0 = shadow &&& ~~~cfgPrimRx := BitVec.or_zero
  rw [configValue, hset]
  rfl

theorem runRequest_standby_settles (hbounds : Config.boundsOk s.params = true) (hc : s.configured = true)
    (hb : s.seq.busy = true) (hk : s.seq.k = 0) (hm : s.mode = .powerDown)
    (h : runRequest .transitionStandby 19 s = .next t) (herr : t.res.err = 0) :
    ∃ asked lasted rx,
      t.env.events = .wait asked lasted :: .xfer [0x20, s.configShadow ||| 0x02] rx :: s.env.events ∧
        1500 ≤ lasted ∧ t.mode = .standby := by
  obtain ⟨hwait, -⟩ := waits_of_boundsOk hbounds
  have hedge : edgeCalls s.params s.mode .standby = some [.config 0xFF cfgPwrUp, .wait s.params.tPd2Stby] := by rw [hm]; rfl
  obtain rfl := runRequest_edge (fun _ => rfl) hb hk hc hedge h
  obtain ⟨rx, h₁⟩ := State.performAll_cons_ok herr
  rw [← powerUp_write, h₁]
  exact ⟨_, _, rx, rfl, hwait.trans (Nat.le_add_right ..), rfl⟩

theorem runRequest_transmit_settles (hbounds : Config.boundsOk s.params = true) (hc : s.configured = true)
    (hb : s.seq.busy = true) (hk : s.seq.k = 0) (hm : s.mode = .standby)
    (h : runRequest .transitionTransmit 19 s = .next t) (herr : t.res.err = 0) :
    ∃ asked lasted rx,
      t.env.events = .wait asked lasted :: .ce .high :: .xfer [0x20, s.configShadow &&& 0xFE] rx :: s.env.events ∧
        10 ≤ lasted ∧ t.mode = .transmit := by
  obtain ⟨-, hwait⟩ := waits_of_boundsOk hbounds
  have hedge : edgeCalls s.params s.mode .transmit =
      some [.config (~~~cfgPrimRx) 0, .ce .high, .wait s.params.tCeHigh] := by rw [hm]; rfl
  obtain rfl := runRequest_edge (fun _ => rfl) hb hk hc hedge h
  obtain ⟨rx, h₁⟩ := State.performAll_cons_ok herr
  rw [h₁] at herr
  obtain ⟨_, h₂⟩ := State.performAll_cons_ok herr
  rw [← primTx_write, h₁, h₂]
  exact ⟨_, _, rx, rfl, hwait.trans (Nat.le_add_right ..), rfl⟩

/-- Settles O38: the edge's calls in their order, of which the last is the wait. -/
theorem settleTimesAreKept : Obligations.SettleTimesAreKept :=
  fun _ _ hbounds hc hb hk =>
    ⟨runRequest_standby_settles hbounds hc hb hk, runRequest_transmit_settles hbounds hc hb hk⟩

end Sys2Proof.Machine
end

section
/-! PROOFS. What a step runs (O6), and the state after reset (O8). -/

namespace Sys2Proof.Machine

variable {s t : State}

/-- With the reset input low, a step runs what is held from where the block runs (R8, R217). -/
theorem step_of_fetch {u : State} (hr : s.resetLevel = false) (hf : s.sampled.fetch = some u) :
    step s = u.runHeld s.suspended := by
  simp [step, hr, hf]

theorem State.fetch_busy (h : s.seq.busy = true) : s.fetch = some s := by simp [State.fetch, h]

theorem State.fetch_offer {o : Offer} {rest : List Offer} (h : s.seq.busy = false) (ho : s.env.requests = o :: rest) :
    s.fetch = some (s.accept o) := by
  simp [State.fetch, h, ho]

theorem State.fetch_nothing (h : s.seq.busy = false) (ho : s.env.requests = []) : s.fetch = none := by
  simp [State.fetch, h, ho]

theorem State.runHeld_running (s : State) : s.runHeld false = execHeld s.seq.held s := rfl

/-- A suspended step that would make no call ends as it would have. -/
theorem State.runHeld_suspended_silent (h : execHeld s.seq.held s = .next t) (hev : t.env.events = s.env.events) :
    s.runHeld true = .next t := by
  simp [State.runHeld, State.hold, State.callMade, h, hev]

/-- A suspended step that would make a call leaves the block where it was (log 25). -/
theorem State.runHeld_suspended_call {ev : Event} (h : execHeld s.seq.held s = .next t)
    (hev : t.env.events = ev :: s.env.events) : s.runHeld true = .next s := by
  simp [State.runHeld, State.hold, State.callMade, h, hev]

theorem step_taking {o : Offer} {rest : List Offer} (hr : s.resetLevel = false) (hb : s.seq.busy = false)
    (ho : s.env.requests = o :: rest) (hs : s.suspended = false) :
    step s = execHeld o.decode (s.sampled.accept o) := by
  rw [step_of_fetch hr (State.fetch_offer (s := s.sampled) hb ho), hs, State.runHeld_running, State.accept_held]

theorem step_running (hr : s.resetLevel = false) (hb : s.seq.busy = true) (hs : s.suspended = false) :
    step s = execHeld s.seq.held s.sampled := by
  rw [step_of_fetch hr (State.fetch_busy (s := s.sampled) hb), hs, State.runHeld_running, State.sampled_seq]

theorem step_idle (hr : s.resetLevel = false) (hb : s.seq.busy = false) (ho : s.env.requests = []) :
    step s = .next s.sampled := by
  simp [step, hr, State.fetch_nothing (s := s.sampled) hb ho]

/-- Settles O6, clause by clause: an offer taken, a request running, nothing to do, a suspended call, the taking itself. -/
theorem stepRunsDecodedInstruction : Obligations.StepRunsDecodedInstruction := by
  intro s hr
  refine ⟨fun o rest hb ho hs => ?_, fun hb hs => ?_, step_idle hr, fun u t hs hu ht => ?_, fun o => ?_⟩
  · have hstep := step_taking hr hb ho hs
    exact ⟨hstep, fun i hi => by rw [hstep, hi, execHeld_ok]⟩
  · have hstep := step_running hr hb hs
    exact ⟨hstep, fun i hi => by rw [hstep, hi, execHeld_ok]⟩
  · have hf : s.sampled.fetch = some u := by
      obtain ⟨hb, rfl⟩ | ⟨hb, o, rest, ho, rfl⟩ := hu
      · exact State.fetch_busy hb
      · exact State.fetch_offer hb ho
    rw [step_of_fetch hr hf, hs]
    exact ⟨State.runHeld_suspended_silent ht, fun _ => State.runHeld_suspended_call ht⟩
  · exact ⟨rfl, rfl, rfl, State.accept_held .., rfl, rfl, rfl, rfl⟩

/-- Settles O8: closed facts about the one reset state. -/
theorem resetStateValues : Obligations.ResetStateValues := by
  unfold Obligations.ResetStateValues
  decide

end Sys2Proof.Machine
end

section
/-! PROOFS. What one step of what is held does to the block's registers, said once for all instructions. -/

namespace Sys2Proof.Machine

variable {s t u : State} {d : Except Reject Instr} {i : Instr} {raw : Bool} {cmd : Byte} {data : List Byte}

/-! ## Command bytes that move a shadow -/

theorem cmdRRegister_moves_nothing (a : BitVec 5) : cmdRRegister a ≠ 0x20 ∧ cmdRRegister a ≠ 0x50 := by
  revert a; decide

theorem cmdWRegister_eq_config (a : BitVec 5) : cmdWRegister a = 0x20 ↔ a = 0 := by
  revert a; decide

theorem cmdWRegister_ne_activate (a : BitVec 5) : cmdWRegister a ≠ 0x50 := by
  revert a; decide

theorem cmdWAckPayload_ne_config (pipe : BitVec 3) : cmdWAckPayload pipe ≠ 0x20 := by
  revert pipe; decide

theorem shadowAfter_of_ne (h : cmd ≠ 0x20) (data : List Byte) (shadow : Byte) : shadowAfter cmd data shadow = shadow := by
  cases data with
  | nil => rfl
  | cons b bs => exact if_neg h

theorem featuresAfter_of_ne (h : cmd ≠ 0x50) (data : List Byte) (active : Bool) :
    featuresAfter cmd data active = active := by
  cases data with
  | nil => rfl
  | cons b bs => exact if_neg fun hact => h hact.1

/-! ## The shadows follow the events -/

/-- The registers once the shadows have followed an event (R22, R25, R26, R240). -/
def State.follow (ev : Event) (s : State) : State :=
  match ev with
  | .xfer [] _ | .xferError _ _ | .wait _ _ => s
  | .xfer (cmd :: data) _ =>
    (s.setConfigShadow (shadowAfter cmd data s.configShadow)).setFeaturesActive (featuresAfter cmd data s.featuresActive)
  | .ce l => s.setCeShadow l.shadow
  | .ceError _ _ => s.setCeShadow .unknown
  | .reset _ => ((s.setConfigShadow s.params.configReset).setFeaturesActive false).setCeShadow .unknown

/-- A transaction whose command byte is neither W_REGISTER to CONFIG nor ACTIVATE moves no shadow. -/
theorem State.follow_xfer_of_ne (h20 : cmd ≠ 0x20) (h50 : cmd ≠ 0x50) (data rx : List Byte) (s : State) :
    s.follow (.xfer (cmd :: data) rx) = s := by
  simp only [State.follow, shadowAfter_of_ne h20, featuresAfter_of_ne h50]
  rfl

/-- The registers of two states, one by one. -/
theorem State.regs_eq_iff : t.regs = s.regs ↔
    t.mode = s.mode ∧ t.configShadow = s.configShadow ∧ t.payloadMode = s.payloadMode ∧ t.configured = s.configured ∧
      t.featuresActive = s.featuresActive ∧ t.ceShadow = s.ceShadow ∧ t.params = s.params := by
  simp [State.regs]

/-! ## Requests and frames of single transactions -/

/-- From `s` to `t` no call was completed, and no register but `seq` and `res` written. -/
abbrev Quiet (s t : State) : Prop := t.env.events = s.env.events ∧ t.regs = s.regs

/-- Everything a step can do that makes at most one transaction: it ends the request without a call, the transaction fails,
or it returns and the shadows follow it. `raw` says whether it may be a write of CONFIG. -/
inductive Transacts (raw : Bool) (s : State) : State → Prop
  | refused (e : ReqError) : Transacts raw s (s.raise e)
  | failed (tx : List Byte) (e : BusError) : Transacts raw s (s.busFailed tx e)
  | returned {t : State} (cmd : Byte) (data rx : List Byte)
      (htrace : t.env.events = .xfer (cmd :: data) rx :: s.env.events)
      (hregs : t.regs = (s.follow (.xfer (cmd :: data) rx)).regs)
      (hraw : raw = false → ∀ shadow, shadowAfter cmd data shadow = shadow) : Transacts raw s t

theorem xfer_follow_transacts {f : List Byte → State → State}
    (hf : ∀ rx, (f rx (s.received (cmd :: data) rx)).env.events = .xfer (cmd :: data) rx :: s.env.events ∧
      (f rx (s.received (cmd :: data) rx)).regs = (s.follow (.xfer (cmd :: data) rx)).regs)
    (hraw : raw = false → ∀ shadow, shadowAfter cmd data shadow = shadow) :
    Transacts raw s (s.xfer (cmd :: data) f) := by
  obtain ⟨e, -, h⟩ | ⟨rx, -, -, h⟩ := s.xfer_cases (cmd :: data) f <;> rw [h]
  · exact .failed _ e
  · obtain ⟨hev, hregs⟩ := hf rx
    exact .returned cmd data rx hev hregs hraw

/-- A transaction of the block's own that is no write of CONFIG and no ACTIVATE. -/
theorem xfer_transacts {f : List Byte → State → State} (h20 : cmd ≠ 0x20) (h50 : cmd ≠ 0x50)
    (hf : ∀ rx, Quiet (s.received (cmd :: data) rx) (f rx (s.received (cmd :: data) rx))) :
    Transacts raw s (s.xfer (cmd :: data) f) := by
  refine xfer_follow_transacts (fun rx => ?_) fun _ => shadowAfter_of_ne h20 data
  rw [State.follow_xfer_of_ne h20 h50]
  exact hf rx

theorem regRead_transacts {a : BitVec 5} {n : Nat} {f : List Byte → State → State}
    (hf : ∀ tx rx, Quiet (s.received tx rx) (f rx (s.received tx rx))) : Transacts raw s (s.regRead a n f) :=
  have ⟨h20, h50⟩ := cmdRRegister_moves_nothing a
  xfer_transacts h20 h50 fun rx => hf _ rx

theorem sendRaw_transacts (hraw : raw = false → ∀ shadow, shadowAfter cmd data shadow = shadow) (s : State) :
    Transacts raw s (s.sendRaw cmd data) :=
  xfer_follow_transacts (fun _ => ⟨rfl, rfl⟩) hraw

theorem sendCommand_transacts {opcode : Byte} {len : BitVec 6} {data : Payload}
    (hraw : raw = false → ¬(opcode = 0x20 ∧ 1 ≤ len)) (s : State) : Transacts raw s (s.sendCommand opcode len data) := by
  unfold State.sendCommand
  split
  · exact .refused _
  · refine sendRaw_transacts (fun hr shadow => ?_) s
    by_cases hop : opcode = 0x20
    · have hlen : len = 0 := by
        have : ¬(1 ≤ len) := fun hle => hraw hr ⟨hop, hle⟩
        bv_omega
      simp [hlen, Payload.front, shadowAfter]
    · exact shadowAfter_of_ne hop _ shadow

theorem flush_transacts (h20 : cmd ≠ 0x20) (h50 : cmd ≠ 0x50) (s : State) : Transacts raw s (s.flush cmd) := by
  unfold State.flush
  split
  · exact xfer_transacts h20 h50 fun _ => ⟨rfl, rfl⟩
  · exact .refused _

/-- WRITE_REGISTER: to CONFIG it moves `config_shadow` (R106), to another register nothing. -/
theorem writeRegister_transacts {addr : BitVec 5} {value : Byte}
    (h : execWriteRegister addr value s = .next t) : Transacts (addr = 0) s t := by
  cases h
  by_cases ha : addr = 0
  · subst ha
    exact xfer_follow_transacts (fun _ => ⟨rfl, rfl⟩) nofun
  · have h20 : cmdWRegister addr ≠ 0x20 := mt (cmdWRegister_eq_config addr).mp ha
    simp only [if_neg ha]
    exact xfer_transacts h20 (cmdWRegister_ne_activate addr) fun _ => ⟨rfl, rfl⟩

theorem rxLength_quiet (cap : BitVec 6) (len : Byte) (s : State) : Quiet s (s.rxLength cap len) := by
  unfold State.rxLength
  split <;> exact ⟨rfl, rfl⟩

theorem writeTxPayload_transacts {noAck : Bool} {len : BitVec 6} {data : Payload}
    (h : execWriteTxPayload noAck len data s = .next t) : Transacts raw s t := by
  obtain ⟨e, rfl⟩ | ⟨-, -, -, -, rfl⟩ | ⟨-, rfl⟩ := execWriteTxPayload_cases h
  · exact .refused e
  · exact regRead_transacts fun _ rx => by split <;> exact ⟨rfl, rfl⟩
  · exact xfer_transacts (by cases noAck <;> decide) (by cases noAck <;> decide) fun _ => ⟨rfl, rfl⟩

theorem readRxPayload_transacts {cap : BitVec 6} (h : execReadRxPayload cap s = .next t) : Transacts raw s t := by
  obtain ⟨e, rfl⟩ | ⟨-, -, rfl⟩ | ⟨-, -, rfl⟩ | ⟨len, rfl⟩ := execReadRxPayload_cases h
  · exact .refused e
  · refine regRead_transacts fun _ rx => ?_
    split
    · split
      · exact rxLength_quiet ..
      · exact ⟨rfl, rfl⟩
      · exact ⟨rfl, rfl⟩
    · exact ⟨rfl, rfl⟩
  · refine xfer_transacts (by decide) (by decide) fun rx => ?_
    split
    · exact ⟨rfl, rfl⟩
    · exact rxLength_quiet ..
  · exact xfer_transacts (by decide) (by decide) fun _ => ⟨rfl, rfl⟩

/-- An SPI command is the raw transaction of its frame. -/
theorem exec_frame (h : frameOf s.params.dummy i = some (cmd, data)) : exec i s = .next (s.sendRaw cmd data) := by
  cases i <;> cases h <;> rfl

/-- An SPI command other than W_REGISTER to CONFIG does not have its command byte. -/
theorem frameOf_ne_config {dummy : Byte} (h : frameOf dummy i = some (cmd, data)) (hraw : rawConfigWrite i = false) :
    cmd ≠ 0x20 := by
  cases i with
  | rRegister reg n => cases h; exact (cmdRRegister_moves_nothing reg).1
  | wRegister reg bytes => cases h; exact mt (cmdWRegister_eq_config reg).mp (by simpa [rawConfigWrite] using hraw)
  | wAckPayload pipe bytes => cases h; exact cmdWAckPayload_ne_config pipe
  | _ => cases h <;> decide

/-- Whether a request's pseudocode makes the calls of a list: APPLY and the transitions. -/
def runsCalls : Instr → Bool
  | .apply _ | .transitionPowerDown | .transitionStandby | .transitionTransmit | .transitionReceive => true
  | _ => false

/-- Each step of the other requests, and of the SPI commands, makes at most one transaction. -/
theorem exec_transacts (hi : runsCalls i = false) (h : exec i s = .next t) : Transacts (rawConfigWrite i) s t := by
  have frame {cmd data} (hf : frameOf s.params.dummy i = some (cmd, data)) : Transacts (rawConfigWrite i) s t := by
    cases (exec_frame hf).symm.trans h
    exact sendRaw_transacts (fun hraw => shadowAfter_of_ne (frameOf_ne_config hf hraw) data) s
  cases i with
  | apply _ | transitionPowerDown | transitionStandby | transitionTransmit | transitionReceive => cases hi
  | readRegister addr => cases h; exact regRead_transacts fun _ _ => ⟨rfl, rfl⟩
  | writeRegister addr value => exact writeRegister_transacts h
  | sendCommand opcode len data =>
    cases h
    exact sendCommand_transacts (by simp [rawConfigWrite]) s
  | writeTxPayload noAck len data => exact writeTxPayload_transacts h
  | readRxPayload cap => exact readRxPayload_transacts h
  | flushTx | flushRx => cases h; exact flush_transacts (by decide) (by decide) s
  | _ => exact frame rfl

/-! ## Every step -/

/-- A call that succeeded, as an event. -/
def Event.succeeded : Event → Bool
  | .xfer _ _ | .ce _ | .wait _ _ => true
  | .xferError _ _ | .ceError _ _ | .reset _ => false

/-- The transitions and their targets. -/
def transitionTargets : List (Instr × Mode) :=
  [(.transitionPowerDown, .powerDown), (.transitionStandby, .standby), (.transitionTransmit, .transmit),
    (.transitionReceive, .receive)]

/-- What a successful call of `d` that leads to `t` writes beside the shadows: nothing, or, as a request's last call, the
target mode of a transition (R162) or what APPLY writes (R134). -/
inductive Completes (d : Except Reject Instr) (t : State) : (State → State) → Prop
  | nothing : Completes d t id
  | transition (i : Instr) (target : Mode) (hd : d = .ok i)
      (hi : (i, target) ∈ transitionTargets) : Completes d t (State.setMode target)
  | apply (cfg : Configuration) (hd : d = .ok (.apply cfg)) (hend : t.Ended) (herr : t.res.err = 0) :
      Completes d t (State.applyDone cfg)

/-- Everything a step of what is held can do to the registers: it ends the request without a call, its call fails and ends the
request, or its call succeeds. `q` is the sequencer's state at the call: APPLY's first step holds its choices. -/
inductive StepEffect (d : Except Reject Instr) (s : State) : State → Prop
  | refused (e : ReqError) : StepEffect d s (s.raise e)
  | busFailed (q : Seq) (tx : List Byte) (e : BusError) : StepEffect d s ((s.setSeq q).busFailed tx e)
  | pinFailed (q : Seq) (l : Level) (e : GpioError) : StepEffect d s ((s.setSeq q).pinFailed l e)
  | made {t : State} (ev : Event) (done : State → State) (hev : ev.succeeded = true)
      (htrace : t.env.events = ev :: s.env.events) (hdone : Completes d t done)
      (hregs : t.regs = (done (s.follow ev)).regs) : StepEffect d s t

theorem Transacts.stepEffect (h : Transacts raw s t) : StepEffect d s t := by
  cases h with
  | refused e => exact .refused e
  | failed tx e => exact .busFailed s.seq tx e
  | returned cmd data rx htrace hregs _ => exact .made _ id rfl htrace .nothing hregs

/-- A successful call adds its event to the trace and the shadows follow it; a register write is not of CONFIG, which has a
call of its own. -/
theorem State.called_follow {c : Call} (rx : List Byte) (hc : ∀ v, c ≠ .regWrite 0 v) (s : State) :
    ∃ ev : Event, ev.succeeded = true ∧ (s.called c rx).env.events = ev :: s.env.events ∧
      (s.called c rx).regs = (s.follow ev).regs := by
  cases c with
  | ce l => exact ⟨.ce l, rfl, rfl, rfl⟩
  | wait us => exact ⟨.wait us _, rfl, rfl, rfl⟩
  | activate => exact ⟨.xfer [cmdActivate, 0x73] rx, rfl, rfl, rfl⟩
  | config keep set =>
    exact ⟨.xfer [cmdWRegister ChipReg.config.addr, configValue keep set s.configShadow] rx, rfl, rfl, rfl⟩
  | regWrite a v =>
    have h20 : cmdWRegister a ≠ 0x20 := fun h => hc v (by rw [(cmdWRegister_eq_config a).mp h])
    refine ⟨.xfer (cmdWRegister a :: v) rx, rfl, rfl, ?_⟩
    rw [State.follow_xfer_of_ne h20 (cmdWRegister_ne_activate a)]
    rfl

/-- A completion depends on the registers alone, and makes no call. -/
theorem Completes.of_regs {done : State → State} (h : Completes d t done) {u v : State} (huv : u.regs = v.regs) :
    (done u).env.events = u.env.events ∧ (done u).regs = (done v).regs := by
  obtain ⟨hm, hc, hp, hcf, hf, hce, hpar⟩ := State.regs_eq_iff.mp huv
  cases h with
  | nothing => exact ⟨rfl, huv⟩
  | transition _ _ _ _ | apply _ _ _ _ => exact ⟨rfl, State.regs_eq_iff.mpr (by simp [State.applyDone, *])⟩

theorem State.follow_setSeq_regs (ev : Event) (q : Seq) (s : State) :
    ((s.setSeq q).follow ev).regs = (s.follow ev).regs := by
  match ev with
  | .xfer [] _ | .xfer (_ :: _) _ | .xferError _ _ | .ce _ | .ceError _ _ | .wait _ _ | .reset _ => rfl

/-- A step of a request whose calls are a list; `done` is its completion. -/
theorem runCalls_stepEffect {calls : List Call} {done : State → State} {q : Seq}
    (hcalls : ∀ v, Call.regWrite 0 v ∉ calls) (hdone : ∀ u, Completes d ((done u).succeed id) done)
    (h : (s.setSeq q).runCalls calls done = .next t) : StepEffect d s t := by
  obtain ⟨c, hc, ⟨tx, e, rfl⟩ | ⟨l, e, rfl⟩ | ⟨rx, rfl⟩⟩ := State.runCalls_cases h
  · exact .busFailed q tx e
  · exact .pinFailed q l e
  · have hne : ∀ v, c ≠ .regWrite 0 v := fun v hv => hcalls v (hv ▸ List.mem_of_getElem? hc)
    obtain ⟨ev, hev, htrace, hregs⟩ := State.called_follow rx hne (s.setSeq q)
    rw [State.follow_setSeq_regs] at hregs
    split
    · obtain ⟨hsilent, hdregs⟩ := (hdone (s.called c rx)).of_regs hregs
      exact .made ev done hev (hsilent.trans htrace) (hdone _) hdregs
    · exact .made ev id hev htrace .nothing hregs

/-- The one-byte register writes an APPLY can make before CONFIG's (R126-R130, R132). -/
def oneByteWrites (p : Params) (cfg : Configuration) : List (ChipReg × Byte) :=
  [(.rfCh, rfChValue cfg), (.rfSetup, rfSetupValue p cfg), (.enAa, enAaValue cfg), (.enRxaddr, enabledMask cfg),
    (.setupAw, setupAwValue cfg), (.feature, p.featureDynamic), (.dynpd, enabledMask cfg)] ++
  allPipes.map fun q => (.rxPw q, rxPwValue cfg q)

/-- Before its CONFIG call, an APPLY sends ACTIVATE, writes RX addresses and makes one-byte writes (R125). -/
theorem mem_registerWrites {p : Params} {cfg : Configuration} {a : Bool} {c : Call}
    (h : c ∈ registerWrites p cfg a) :
    c = .activate ∨ (∃ q v, c = .regWrite (ChipReg.rxAddr q).addr v) ∨
      ∃ w ∈ oneByteWrites p cfg, c = .regWrite w.1.addr [w.2] := by
  have haddr : c ∈ addressWrites cfg → ∃ q v, c = .regWrite (ChipReg.rxAddr q).addr v := fun hc => by
    simp only [addressWrites, List.mem_append, List.mem_ite_nil_right, List.mem_singleton, List.mem_map] at hc
    obtain (⟨-, rfl⟩ | ⟨-, rfl⟩) | ⟨q, -, rfl⟩ := hc <;> exact ⟨_, _, rfl⟩
  have hsize : c ∈ sizingWrites p cfg a → c = .activate ∨ ∃ w ∈ oneByteWrites p cfg, c = .regWrite w.1.addr [w.2] :=
    fun hc => by
      unfold sizingWrites at hc
      split at hc
      · simp only [List.mem_append, List.mem_ite_nil_right, List.mem_cons, List.not_mem_nil, or_false] at hc
        obtain ⟨-, rfl⟩ | rfl | rfl := hc
        · exact .inl rfl
        · exact .inr ⟨(.feature, p.featureDynamic), List.mem_append_left _ (by simp), rfl⟩
        · exact .inr ⟨(.dynpd, enabledMask cfg), List.mem_append_left _ (by simp), rfl⟩
      · obtain ⟨q, hq, rfl⟩ := List.mem_map.mp hc
        exact .inr ⟨(.rxPw q, _), List.mem_append_right _ (List.mem_map_of_mem hq), rfl⟩
  simp only [registerWrites, List.mem_append] at h
  obtain (h | h) | h := h
  · have hw : c ∈ ((oneByteWrites p cfg).take 5).map fun w => .regWrite w.1.addr [w.2] := h
    obtain ⟨w, hmem, rfl⟩ := List.mem_map.mp hw
    exact .inr (.inr ⟨w, List.mem_of_mem_take hmem, rfl⟩)
  · exact .inr (.inl (haddr h))
  · exact (hsize h).imp_right .inr

/-- None of them is a write of CONFIG. -/
theorem oneByteWrites_ne_config {p : Params} {cfg : Configuration} : ∀ w ∈ oneByteWrites p cfg, w.1.addr ≠ 0 := by
  simp [oneByteWrites, allPipes, ChipReg.addr]

theorem rxAddr_ne_config (q : Fin 6) : (ChipReg.rxAddr q).addr ≠ 0 := by
  revert q; decide

theorem regWrite_config_not_mem_registerWrites (p : Params) (cfg : Configuration) (a : Bool) (v : List Byte) :
    Call.regWrite 0 v ∉ registerWrites p cfg a := fun h => by
  obtain h | ⟨q, w, h⟩ | ⟨w, hw, h⟩ := mem_registerWrites h
  · cases h
  · exact rxAddr_ne_config q (Call.regWrite.inj h).1.symm
  · exact oneByteWrites_ne_config w hw (Call.regWrite.inj h).1.symm

theorem regWrite_config_not_mem_applyCalls (p : Params) (cfg : Configuration) (d a : Bool) (v : List Byte) :
    Call.regWrite 0 v ∉ applyCalls p cfg d a := by
  have hne := regWrite_config_not_mem_registerWrites p cfg a v
  cases d <;> simpa [applyCalls] using hne

theorem regWrite_not_mem_edgeCalls {p : Params} {m target : Mode} {calls : List Call}
    (h : edgeCalls p m target = some calls) (r : BitVec 5) (v : List Byte) : Call.regWrite r v ∉ calls := by
  cases m <;> cases target <;> cases h <;> simp

theorem transition_stepEffect {target : Mode} (hi : (i, target) ∈ transitionTargets)
    (h : s.transition target = .next t) : StepEffect (.ok i) s t := by
  obtain ⟨e, rfl⟩ | ⟨calls, -, hedge, h⟩ := State.transition_cases h
  · exact .refused e
  · exact runCalls_stepEffect (q := s.seq) (regWrite_not_mem_edgeCalls hedge 0)
      (fun _ => .transition i target rfl hi) h

theorem execApply_stepEffect {cfg : Configuration} (h : execApply cfg s = .next t) :
    StepEffect (.ok (.apply cfg)) s t := by
  have call (q : Seq) (h : (s.setSeq q).applyCall cfg = .next t) : StepEffect (.ok (.apply cfg)) s t :=
    runCalls_stepEffect (regWrite_config_not_mem_applyCalls _ _ _ _) (fun _ => .apply cfg rfl ⟨rfl, rfl⟩ rfl) h
  obtain ⟨-, e, rfl⟩ | ⟨-, -, h⟩ | ⟨-, h⟩ := execApply_cases h
  · exact .refused e
  · exact call _ h
  · exact call s.seq h

theorem execRejected_stepEffect {r : Reject} (h : execRejected r s = .next t) : StepEffect d s t := by
  cases r with
  | reservedOp _ => cases h; exact .refused _
  | undefinedCommand _ | dataCount _ _ =>
    cases h
    exact (sendCommand_transacts (raw := true) nofun s).stepEffect

/-- Said once for every step of what is held: O47, O51, O52 and O53 read their registers off this. -/
theorem execHeld_stepEffect (h : execHeld d s = .next t) : StepEffect d s t := by
  cases d with
  | error r => exact execRejected_stepEffect h
  | ok i =>
    rw [execHeld_ok] at h
    cases i with
    | apply cfg => exact execApply_stepEffect h
    | transitionPowerDown | transitionStandby | transitionTransmit | transitionReceive =>
      exact transition_stepEffect (by simp [transitionTargets]) h
    | _ => exact (exec_transacts rfl h).stepEffect

end Sys2Proof.Machine
end

section
/-! PROOFS. The shadows track the trace (O53). What failed calls do (O47), and who writes `mode`, `payload_mode` and
`configured` (O51, O52). -/

namespace Sys2Proof.Machine

variable {s t u : State} {d : Except Reject Instr}

/-! ## The shadows and the trace -/

/-- When the shadows follow the one event that a step adds, they go on saying what the trace says. -/
theorem State.ShadowsTrackTrace.of_follow (h : s.ShadowsTrackTrace) {ev : Event}
    (htrace : t.env.events = ev :: s.env.events) (hparams : t.params = s.params)
    (hconfig : t.configShadow = (s.follow ev).configShadow) (hce : t.ceShadow = (s.follow ev).ceShadow)
    (hfeat : t.featuresActive = (s.follow ev).featuresActive) : t.ShadowsTrackTrace := by
  obtain ⟨h₁, h₂, h₃⟩ := h
  unfold State.ShadowsTrackTrace
  rw [hconfig, hce, hfeat, htrace, hparams]
  match ev with
  | .xfer (cmd :: b :: bs) rx =>
    simp [State.follow, lastConfig, lastCe, featureParity, shadowAfter, featuresAfter, ← h₁, ← h₂, ← h₃]
  | .xfer [] _ | .xfer [_] _ | .xferError _ _ | .wait _ _ => exact ⟨h₁, h₂, h₃⟩
  | .ce _ | .ceError _ _ => exact ⟨h₁, rfl, h₃⟩
  | .reset _ => exact ⟨rfl, rfl, rfl⟩

/-- The shadows apart, no event moves a register. -/
theorem State.follow_keeps (ev : Event) (s : State) :
    (s.follow ev).mode = s.mode ∧ (s.follow ev).payloadMode = s.payloadMode ∧
      (s.follow ev).configured = s.configured ∧ (s.follow ev).params = s.params := by
  match ev with
  | .xfer [] _ | .xfer (_ :: _) _ | .xferError _ _ | .ce _ | .ceError _ _ | .wait _ _ | .reset _ =>
    exact ⟨rfl, rfl, rfl, rfl⟩

/-- No completion writes a shadow. -/
theorem Completes.shadows {done : State → State} (h : Completes d t done) (u : State) :
    (done u).configShadow = u.configShadow ∧ (done u).ceShadow = u.ceShadow ∧
      (done u).featuresActive = u.featuresActive ∧ (done u).params = u.params := by
  cases h <;> exact ⟨rfl, rfl, rfl, rfl⟩

theorem StepEffect.tracks (h : StepEffect d s t) (hs : s.ShadowsTrackTrace) : t.ShadowsTrackTrace := by
  cases h with
  | refused e => exact hs
  | busFailed q tx e => exact hs.of_follow (ev := .xferError tx e) rfl rfl rfl rfl rfl
  | pinFailed q l e => exact hs.of_follow (ev := .ceError l e) rfl rfl rfl rfl rfl
  | made ev done hev htrace hdone hregs =>
    obtain ⟨-, hc, -, -, hf, hce, hp⟩ := State.regs_eq_iff.mp hregs
    obtain ⟨hc', hce', hf', hp'⟩ := hdone.shadows (s.follow ev)
    obtain ⟨-, -, -, hp''⟩ := s.follow_keeps ev
    exact hs.of_follow htrace (hp.trans (hp'.trans hp'')) (hc.trans hc') (hce.trans hce') (hf.trans hf')

/-- Taking an offer writes no shadow and makes no call. -/
theorem State.fetch_tracks (hs : s.ShadowsTrackTrace) (h : s.fetch = some u) : u.ShadowsTrackTrace := by
  obtain ⟨-, rfl⟩ | ⟨-, o, rest, -, rfl⟩ := State.fetch_cases h <;> exact hs

/-- Settles O53: a reset is one event, which the shadows follow to their reset values; in every other step the shadows follow
the event of the step's call, or nothing happens to them. -/
theorem shadowsTrackTraceKept : Obligations.ShadowsTrackTraceKept := by
  intro s t hs h
  have hsampled : s.sampled.ShadowsTrackTrace := hs
  obtain ⟨-, rfl⟩ | ⟨-, ⟨-, rfl⟩ | ⟨u, v, hf, hv, rfl⟩⟩ := step_cases h
  · exact ⟨rfl, rfl, rfl⟩
  · exact hsampled
  · have hu : u.ShadowsTrackTrace := State.fetch_tracks hsampled hf
    split
    · exact hu
    · exact (execHeld_stepEffect hv).tracks hu

/-! ## Failed calls -/

/-- Settles O47: the trace tells which case of the step it was, as only a failed call adds its event. -/
theorem failedCallsEndRequests : Obligations.FailedCallsEndRequests := by
  intro d s t h
  cases execHeld_stepEffect h with
  | refused e =>
    have hsilent (ev : Event) : s.env.events ≠ ev :: s.env.events := (List.cons_ne_self _ _).symm
    exact ⟨fun _ _ hev => absurd hev (hsilent _), fun _ _ hev => absurd hev (hsilent _)⟩
  | busFailed q tx e =>
    constructor <;> intro _ _ hev <;> cases hev
    exact ⟨⟨rfl, rfl⟩, rfl, rfl, rfl, rfl, rfl⟩
  | pinFailed q l e =>
    constructor <;> intro _ _ hev <;> cases hev
    exact ⟨⟨rfl, rfl⟩, rfl, rfl, rfl⟩
  | made ev done hev htrace hdone hregs =>
    constructor <;> intro _ _ hfailed <;> cases htrace.symm.trans hfailed <;> cases hev

/-! ## Who writes the mode and the configuration -/

/-- Settles O51: of what a successful call can complete, only a transition's last call writes `mode`. -/
theorem onlyTransitionsWriteMode : Obligations.OnlyTransitionsWriteMode := by
  intro d s t h
  cases execHeld_stepEffect h with
  | refused _ | busFailed _ _ _ | pinFailed _ _ _ => exact .inl rfl
  | made ev done hev htrace hdone hregs =>
    obtain ⟨hm, -⟩ := State.regs_eq_iff.mp hregs
    obtain ⟨hfollow, -⟩ := s.follow_keeps ev
    cases hdone with
    | nothing | apply _ _ _ _ => exact .inl (hm.trans hfollow)
    | transition i target hd hi =>
      have hm : t.mode = target := hm
      exact .inr ⟨i, hd, hm ▸ hi⟩

/-- Settles O52: of what a successful call can complete, only APPLY's last call writes the two registers. -/
theorem onlyApplyConfigures : Obligations.OnlyApplyConfigures := by
  intro d s t h
  cases execHeld_stepEffect h with
  | refused _ | busFailed _ _ _ | pinFailed _ _ _ => exact .inl ⟨rfl, rfl⟩
  | made ev done hev htrace hdone hregs =>
    obtain ⟨-, -, hpm, hc, -⟩ := State.regs_eq_iff.mp hregs
    obtain ⟨-, hpm', hc', -⟩ := s.follow_keeps ev
    cases hdone with
    | nothing | transition _ _ _ _ => exact .inl ⟨hpm.trans hpm', hc.trans hc'⟩
    | apply cfg hd hend herr => exact .inr ⟨cfg, hd, hend, herr, hc, hpm⟩

end Sys2Proof.Machine
end

section
/-! PROOFS. The invariants between requests (O59, O55), and the chip's operating mode under them (O60). -/

namespace Sys2Proof.Machine

variable {s t u : State} {i : Instr} {n : Nat}

/-! ## What the calls of a list leave in the shadows -/

/-- `config_shadow` after a call of a list that succeeded. -/
def Call.configAfter (shadow : Byte) : Call → Byte
  | .config keep set => configValue keep set shadow
  | .ce _ | .regWrite _ _ | .activate | .wait _ => shadow

/-- `ce_shadow` after a call of a list that succeeded. -/
def Call.ceAfter (ce : CeShadow) : Call → CeShadow
  | .ce l => l.shadow
  | .regWrite _ _ | .activate | .config _ _ | .wait _ => ce

@[simp] theorem State.called_configShadow (c : Call) (rx : List Byte) (s : State) :
    (s.called c rx).configShadow = c.configAfter s.configShadow := by
  cases c <;> rfl

@[simp] theorem State.called_ceShadow (c : Call) (rx : List Byte) (s : State) :
    (s.called c rx).ceShadow = c.ceAfter s.ceShadow := by
  cases c <;> rfl

/-- A list of calls that ends with success was made from its first call to its last, each of which succeeded. -/
theorem State.performAll_ok {calls : List Call} {done : State → State}
    (h : (State.performAll calls done s).res.err = 0) :
    ∃ u, State.performAll calls done s = (done u).succeed id ∧ u.mode = s.mode ∧ u.configured = s.configured ∧
      u.configShadow = calls.foldl Call.configAfter s.configShadow ∧
      u.ceShadow = calls.foldl Call.ceAfter s.ceShadow := by
  induction calls generalizing s with
  | nil => exact ⟨s, rfl, rfl, rfl, rfl, rfl⟩
  | cons c cs ih =>
    obtain ⟨rx, hc⟩ := State.performAll_cons_ok h
    rw [hc] at h ⊢
    simpa using ih h

/-- The register writes of an APPLY move neither shadow. -/
theorem registerWrites_configAfter (p : Params) (cfg : Configuration) (a : Bool) (shadow : Byte) :
    (registerWrites p cfg a).foldl Call.configAfter shadow = shadow := by
  have hneutral : ∀ shadow, ∀ c ∈ registerWrites p cfg a, c.configAfter shadow = shadow := fun shadow c hc => by
    obtain rfl | ⟨q, v, rfl⟩ | ⟨w, -, rfl⟩ := mem_registerWrites hc <;> rfl
  rw [List.foldl_ext _ _ _ hneutral, List.foldl_fixed]

theorem registerWrites_ceAfter (p : Params) (cfg : Configuration) (a : Bool) (ce : CeShadow) :
    (registerWrites p cfg a).foldl Call.ceAfter ce = ce := by
  have hneutral : ∀ ce, ∀ c ∈ registerWrites p cfg a, c.ceAfter ce = ce := fun ce c hc => by
    obtain rfl | ⟨q, v, rfl⟩ | ⟨w, -, rfl⟩ := mem_registerWrites hc <;> rfl
  rw [List.foldl_ext _ _ _ hneutral, List.foldl_fixed]

/-! ## The invariants, mode by mode (R55) -/

theorem State.modeOk_powerDown (hm : s.mode = .powerDown) :
    s.ModeOk ↔ pwrUp s.configShadow = false ∧ (s.configured = true → s.ceShadow = .low) := by
  constructor
  · rintro ⟨a, -, -, -, d, -⟩
    exact ⟨a hm, fun hc => d hc (.inl hm)⟩
  · rintro ⟨hpwr, hce⟩
    constructor <;> simp_all

theorem State.modeOk_standby (hm : s.mode = .standby) :
    s.ModeOk ↔ pwrUp s.configShadow = true ∧ (s.configured = true → s.ceShadow = .low) := by
  constructor
  · rintro ⟨-, b, -, -, d, -⟩
    exact ⟨b (by simp [hm]), fun hc => d hc (.inr hm)⟩
  · rintro ⟨hpwr, hce⟩
    constructor <;> simp_all

theorem State.modeOk_transmit (hm : s.mode = .transmit) :
    s.ModeOk ↔ pwrUp s.configShadow = true ∧ primRx s.configShadow = false ∧ s.ceShadow = .high := by
  constructor
  · rintro ⟨-, b, c₁, -, -, e⟩
    exact ⟨b (by simp [hm]), c₁ hm, e (.inl hm)⟩
  · rintro ⟨hpwr, hprim, hce⟩
    constructor <;> simp_all

theorem State.modeOk_receive (hm : s.mode = .receive) :
    s.ModeOk ↔ pwrUp s.configShadow = true ∧ primRx s.configShadow = true ∧ s.ceShadow = .high := by
  constructor
  · rintro ⟨-, b, -, c₂, -, e⟩
    exact ⟨b (by simp [hm]), c₂ hm, e (.inr hm)⟩
  · rintro ⟨hpwr, hprim, hce⟩
    constructor <;> simp_all

/-! ## The edges: PWR_UP and PRIM_RX under the four writes of CONFIG (R151-R153, R156), and the shadows at their end -/

theorem powerUp_bits (shadow : Byte) : pwrUp (configValue 0xFF cfgPwrUp shadow) = true := by
  simp [pwrUp, configValue, cfgPwrUp]

theorem powerDown_bits (shadow : Byte) : pwrUp (configValue (~~~cfgPwrUp) 0 shadow) = false := by
  simp [pwrUp, configValue, cfgPwrUp]

theorem primRx_bits (shadow : Byte) :
    pwrUp (configValue 0xFF cfgPrimRx shadow) = pwrUp shadow ∧ primRx (configValue 0xFF cfgPrimRx shadow) = true := by
  simp [pwrUp, primRx, configValue, cfgPrimRx]

theorem primTx_bits (shadow : Byte) :
    pwrUp (configValue (~~~cfgPrimRx) 0 shadow) = pwrUp shadow ∧ primRx (configValue (~~~cfgPrimRx) 0 shadow) = false := by
  simp [pwrUp, primRx, configValue, cfgPrimRx]

/-- The calls of an edge leave the shadows as the target mode asks. -/
theorem edge_modeOk {p : Params} {target : Mode} {calls : List Call} (hs : s.ModeOk) (hc : s.configured = true)
    (hedge : edgeCalls p s.mode target = some calls) (hm : t.mode = target)
    (hconfig : t.configShadow = calls.foldl Call.configAfter s.configShadow)
    (hce : t.ceShadow = calls.foldl Call.ceAfter s.ceShadow) : t.ModeOk := by
  cases target with
  | powerDown =>
    have hshadows : t.configShadow = configValue (~~~cfgPwrUp) 0 s.configShadow ∧ t.ceShadow = .low := by
      cases hm₀ : s.mode <;> rw [hm₀] at hedge <;> cases hedge
      case powerDown => exact ⟨hconfig, hce.trans (hs.d hc (.inl hm₀))⟩
      case standby => exact ⟨hconfig, hce.trans (hs.d hc (.inr hm₀))⟩
      case transmit | receive => exact ⟨hconfig, hce⟩
    obtain ⟨hconfig, hce⟩ := hshadows
    exact (State.modeOk_powerDown hm).mpr ⟨hconfig ▸ powerDown_bits _, fun _ => hce⟩
  | standby =>
    have hshadows : pwrUp t.configShadow = true ∧ t.ceShadow = .low := by
      cases hm₀ : s.mode <;> rw [hm₀] at hedge <;> cases hedge
      case powerDown => exact ⟨hconfig ▸ powerUp_bits _, hce.trans (hs.d hc (.inl hm₀))⟩
      case transmit | receive => exact ⟨hconfig ▸ hs.b (by simp [hm₀]), hce⟩
    obtain ⟨hpwr, hce⟩ := hshadows
    exact (State.modeOk_standby hm).mpr ⟨hpwr, fun _ => hce⟩
  | transmit =>
    cases hm₀ : s.mode <;> rw [hm₀] at hedge <;> cases hedge
    obtain ⟨hpwr, hprim⟩ := primTx_bits s.configShadow
    exact (State.modeOk_transmit hm).mpr ⟨hconfig ▸ hpwr.trans (hs.b (by simp [hm₀])), hconfig ▸ hprim, hce⟩
  | receive =>
    cases hm₀ : s.mode <;> rw [hm₀] at hedge <;> cases hedge
    obtain ⟨hpwr, hprim⟩ := primRx_bits s.configShadow
    exact (State.modeOk_receive hm).mpr ⟨hconfig ▸ hpwr.trans (hs.b (by simp [hm₀])), hconfig ▸ hprim, hce⟩

/-! ## The requests -/

/-- The invariants speak of four registers. -/
theorem State.ModeOk.congr (h : s.ModeOk) (hm : t.mode = s.mode) (hc : t.configShadow = s.configShadow)
    (hcf : t.configured = s.configured) (hce : t.ceShadow = s.ceShadow) : t.ModeOk := by
  obtain ⟨a, b, c₁, c₂, d, e⟩ := h
  constructor <;> simpa [hm, hc, hcf, hce]

theorem pseudoTransition_modeOk {target : Mode} (hs : s.ModeOk) (herr : (pseudoTransition target s).res.err = 0) :
    (pseudoTransition target s).ModeOk := by
  unfold pseudoTransition at herr ⊢
  split at herr
  · cases herr
  · rename_i hc
    rw [if_neg hc]
    split at herr
    · cases herr
    · rename_i calls hedge
      obtain ⟨u, hu, -, -, hconfig, hce⟩ := State.performAll_ok herr
      rw [hu]
      exact edge_modeOk hs (by simpa using hc) hedge rfl hconfig hce

/-- APPLY's CONFIG keeps PWR_UP: the CRC bits are others (R133). -/
theorem applyConfig_pwrUp (crc : BitVec 2) (shadow : Byte) :
    pwrUp (configValue 0x73#8 (crcBits crc) shadow) = pwrUp shadow := by
  have hcrc : (crcBits crc)[1] = false := by revert crc; decide
  simp [pwrUp, configValue, hcrc]

/-- The calls of an APPLY keep PWR_UP and leave CE Low, as its pseudocode lists them (R124, R133). -/
theorem applyCalls_shadows (p : Params) (cfg : Configuration) (a : Bool) (shadow : Byte) (ce : CeShadow) (calls : List Call)
    (hcalls : calls = (if ce = .low then [] else [.ce .low]) ++ registerWrites p cfg a ++
      [.config 0x73 (crcBits cfg.crc)]) :
    pwrUp (calls.foldl Call.configAfter shadow) = pwrUp shadow ∧ calls.foldl Call.ceAfter ce = .low := by
  subst hcalls
  split <;> simp [Call.configAfter, Call.ceAfter, registerWrites_configAfter, registerWrites_ceAfter, applyConfig_pwrUp,
    Level.shadow, *]

/-- APPLY keeps PWR_UP and leaves CE Low; it runs in PowerDown and Standby only (R121). -/
theorem pseudoApply_modeOk {cfg : Configuration} (hs : s.ModeOk) (herr : (pseudoApply cfg s).res.err = 0) :
    (pseudoApply cfg s).ModeOk := by
  unfold pseudoApply at herr ⊢
  split at herr
  · cases herr
  · split at herr
    · rename_i hm
      rw [if_pos hm]
      obtain ⟨u, hu, hmode, -, hconfig, hce⟩ := State.performAll_ok herr
      obtain ⟨hpwr, hlow⟩ := applyCalls_shadows s.params cfg _ s.configShadow s.ceShadow _ rfl
      have hpwr : pwrUp u.configShadow = pwrUp s.configShadow := hconfig ▸ hpwr
      have hlow : u.ceShadow = .low := hce.trans hlow
      simp only [hu]
      obtain hm | hm := hm
      · exact (State.modeOk_powerDown (s := (State.applyDone cfg u).succeed id) (hmode.trans hm)).mpr
          ⟨hpwr.trans (hs.a hm), fun _ => hlow⟩
      · exact (State.modeOk_standby (s := (State.applyDone cfg u).succeed id) (hmode.trans hm)).mpr
          ⟨hpwr.trans (hs.b (by simp [hm])), fun _ => hlow⟩
    · cases herr

/-- A request of at most one transaction a step, other than a raw write of CONFIG, leaves the four registers alone. -/
theorem Transacts.modeOk (h : Transacts false s t) (hs : s.ModeOk) : t.ModeOk := by
  cases h with
  | refused e => exact hs.congr rfl rfl rfl rfl
  | failed tx e => exact hs.congr rfl rfl rfl rfl
  | returned cmd data rx htrace hregs hraw =>
    obtain ⟨hm, hc, -, hcf, -, hce, -⟩ := State.regs_eq_iff.mp hregs
    exact hs.congr hm (hc.trans (hraw rfl _)) hcf hce

/-- What every step of a request keeps, the request keeps. -/
theorem runRequest_keeps {P : State → Prop} (hstep : ∀ u v, P u → exec i u = .next v → P v) (hs : P s)
    (h : runRequest i n s = .next t) : P t := by
  induction n generalizing s with
  | zero => cases h; exact hs
  | succ n ih =>
    rw [runRequest_succ] at h
    cases hv : exec i s with
    | next v =>
      rw [hv, proceed] at h
      have hv := hstep s v hs hv
      split at h
      · exact ih hv h
      · cases h; exact hv
    | fault r => rw [hv] at h; cases h
    | refused r => rw [hv] at h; cases h

/-- Settles O59: APPLY and the transitions by what their calls leave in the shadows, the other requests step by step. -/
theorem modeInvariantsKept : Obligations.ModeInvariantsKept := by
  intro i s t hs hb hk hraw h herr
  have hpseudo := (requestsRunTheirPseudocode i s hb hk).symm.trans h
  cases i with
  | apply cfg => cases hpseudo; exact pseudoApply_modeOk hs herr
  | transitionPowerDown | transitionStandby | transitionTransmit | transitionReceive =>
    cases hpseudo
    exact pseudoTransition_modeOk hs herr
  | _ => exact runRequest_keeps (fun u v hu hv => (hraw ▸ exec_transacts rfl hv).modeOk hu) hs h

/-! ## The chip's operating mode -/

theorem Level.shadow_low {l : Level} (h : l.shadow = .low) : l = .low := by
  cases l with
  | low => rfl
  | high => cases h

theorem Level.shadow_high {l : Level} (h : l.shadow = .high) : l = .high := by
  cases l with
  | low => cases h
  | high => rfl

/-- Settles O60, mode by mode (R53). -/
theorem modeMatchesChip : Obligations.ModeMatchesChip := by
  intro s ce txEmpty hs hc hce
  cases hm : s.mode with
  | powerDown =>
    obtain ⟨hpwr, -⟩ := (State.modeOk_powerDown hm).mp hs
    simp [chipMode, hpwr, Mode.matchesChip]
  | standby =>
    obtain ⟨hpwr, hlow⟩ := (State.modeOk_standby hm).mp hs
    obtain rfl := Level.shadow_low (hce.symm.trans (hlow hc))
    simp [chipMode, hpwr, Mode.matchesChip]
  | transmit =>
    obtain ⟨hpwr, hprim, hhigh⟩ := (State.modeOk_transmit hm).mp hs
    obtain rfl := Level.shadow_high (hce.symm.trans hhigh)
    cases txEmpty <;> simp [chipMode, hpwr, hprim, Mode.matchesChip]
  | receive =>
    obtain ⟨hpwr, hprim, hhigh⟩ := (State.modeOk_receive hm).mp hs
    obtain rfl := Level.shadow_high (hce.symm.trans hhigh)
    simp [chipMode, hpwr, hprim, Mode.matchesChip]

/-! ## Reset -/

/-- Settles O55: closed facts about the one reset state, which has made no call and holds no payload mode. -/
theorem invariantsAtReset : Obligations.InvariantsAtReset :=
  ⟨⟨.inl rfl, nofun, nofun⟩, ⟨rfl, rfl, rfl⟩,
    (State.modeOk_powerDown rfl).mpr ⟨by decide, nofun⟩⟩

end Sys2Proof.Machine
end

section
/-! PROOFS. Every request ends (O58). -/

namespace Sys2Proof.Machine

variable {s t : State} {i : Instr}

theorem xfer_ended {tx : List Byte} {f : List Byte → State → State} (hf : ∀ rx, (f rx (s.received tx rx)).Ended) :
    (s.xfer tx f).Ended := by
  obtain ⟨e, -, h⟩ | ⟨rx, -, -, h⟩ := s.xfer_cases tx f <;> rw [h]
  · exact ⟨rfl, rfl⟩
  · exact hf rx

/-- A list of calls made one after the other ends the request, by a call that fails or by the completion (R97, R219). -/
theorem State.performAll_ended (calls : List Call) (done : State → State) (s : State) :
    (State.performAll calls done s).Ended := by
  induction calls generalizing s with
  | nil => exact ⟨rfl, rfl⟩
  | cons c cs ih =>
    obtain ⟨tx, e, h⟩ | ⟨l, e, h⟩ | ⟨rx, h⟩ := s.perform_cases c (State.performAll cs done) <;>
      rw [State.performAll, h]
    · exact ⟨rfl, rfl⟩
    · exact ⟨rfl, rfl⟩
    · exact ih _

theorem pseudoApply_ended (cfg : Configuration) (s : State) : (pseudoApply cfg s).Ended := by
  unfold pseudoApply
  split
  · exact ⟨rfl, rfl⟩
  · split
    · exact State.performAll_ended ..
    · exact ⟨rfl, rfl⟩

theorem pseudoTransition_ended (target : Mode) (s : State) : (pseudoTransition target s).Ended := by
  unfold pseudoTransition
  split
  · exact ⟨rfl, rfl⟩
  · split
    · exact ⟨rfl, rfl⟩
    · exact State.performAll_ended ..

/-- A configured block has a payload limit (R181), so WRITE_TX_PAYLOAD does not stop. -/
theorem pseudoWriteTx_ended (noAck : Bool) (len : BitVec 6) (data : Payload) (hp : s.PayloadModeOk) :
    ∃ t, pseudoWriteTx noAck len data s = .next t ∧ t.Ended := by
  unfold pseudoWriteTx
  split
  · exact ⟨_, rfl, rfl, rfl⟩
  · rename_i hc
    split
    · rename_i hmax
      have hunset : s.payloadMode = .unset := by
        cases hpm : s.payloadMode with
        | unset => rfl
        | static n => rw [hpm] at hmax; cases hmax
        | dynamic => rw [hpm] at hmax; cases hmax
      exact absurd hunset (hp.2 (by simpa using hc))
    · split
      · exact ⟨_, rfl, rfl, rfl⟩
      · split
        · exact ⟨_, rfl, rfl, rfl⟩
        · refine ⟨_, rfl, xfer_ended fun rx => ?_⟩
          split
          · exact ⟨rfl, rfl⟩
          · exact xfer_ended fun _ => ⟨rfl, rfl⟩

theorem rxRead_ended (cap : BitVec 6) (len : Byte) (s : State) : (rxRead cap len s).Ended := by
  unfold rxRead
  split
  · exact ⟨rfl, rfl⟩
  · exact xfer_ended fun _ => ⟨rfl, rfl⟩

theorem rxReadDynamic_ended (cap : BitVec 6) (s : State) : (rxReadDynamic cap s).Ended :=
  xfer_ended fun w => by
    split
    · exact ⟨rfl, rfl⟩
    · exact rxRead_ended ..

theorem pseudoReadRx_ended (cap : BitVec 6) (s : State) : (pseudoReadRx cap s).Ended := by
  rw [pseudoReadRx_eq]
  split
  · exact ⟨rfl, rfl⟩
  · refine xfer_ended fun rx => ?_
    unfold rxAfterStatus
    split
    · exact ⟨rfl, rfl⟩
    · split
      · exact rxRead_ended ..
      · exact rxReadDynamic_ended ..

/-- Settles O58: within 19 calls a request comes to what its pseudocode gives (O57), and that has ended. -/
theorem everyRequestEnds : Obligations.EveryRequestEnds := by
  intro i s hp hb hk
  rw [requestsRunTheirPseudocode i s hb hk]
  have oneCall (hi : severalCalls i = false) (hpseudo : pseudocode i s = exec i s) :
      ∃ t, pseudocode i s = .next t ∧ t.Ended := by
    obtain ⟨t, ht, hend, -⟩ := exec_oneCall hi s
    exact ⟨t, hpseudo.trans ht, hend⟩
  cases i with
  | apply cfg => exact ⟨_, rfl, pseudoApply_ended cfg s⟩
  | transitionPowerDown | transitionStandby | transitionTransmit | transitionReceive =>
    exact ⟨_, rfl, pseudoTransition_ended _ s⟩
  | writeTxPayload noAck len data => exact pseudoWriteTx_ended noAck len data hp
  | readRxPayload cap => exact ⟨_, rfl, pseudoReadRx_ended cap s⟩
  | _ => exact oneCall rfl rfl

end Sys2Proof.Machine
end

section
/-! PROOFS. The register values of a Configuration (O18, O20, O21), and the readings of a status byte (O46). -/

namespace Sys2Proof.Machine

variable {cfg : Configuration}

/-! ## What `Validate` guarantees (R123) -/

theorem validFields (h : validate cfg = none) :
    cfg.channel ≤ 125 ∧ cfg.dataRate ≠ 3 ∧ cfg.crc ≠ 3 ∧ (cfg.aw = 3 ∨ cfg.aw = 4 ∨ cfg.aw = 5) := by
  unfold validate at h
  split_ifs at h with hch hrate hcrc haw
  exact ⟨BitVec.not_lt.mp hch, hrate, hcrc, haw⟩

/-! ## The values -/

theorem rfChValue_facts (h : cfg.channel ≤ 125) :
    (rfChValue cfg).toNat = cfg.channel.toNat ∧ (rfChValue cfg).toNat ≤ 125 ∧ (rfChValue cfg).getLsbD 7 = false := by
  have hnat : (rfChValue cfg).toNat = cfg.channel.toNat := by simp [rfChValue]; omega
  refine ⟨hnat, hnat ▸ h, ?_⟩
  simp [rfChValue]

theorem dataRateBits_eq {rate : BitVec 2} (h : rate ≠ 3) :
    dataRateBits rate = if rate = 0 then 0x20 else if rate = 1 then 0x00 else 0x08 := by
  revert rate; decide

/-- The pipe mask of six flags. -/
def flagMask (flag : Fin 6 → Bool) : Byte :=
  allPipes.foldl (fun acc p => acc + ((BitVec.ofBool (flag p)).setWidth 8 <<< p.val)) 0

theorem pipeMask_eq (cfg : Configuration) (f : Pipe → Bool) : pipeMask cfg f = flagMask fun p => f (cfg.pipe p) := rfl

/-- Bit `q` of a pipe mask is pipe `q`'s flag, and the two bits above them are 0. -/
theorem flagMask_bits (flag : Fin 6 → Bool) :
    (∀ q : Fin 6, (flagMask flag).getLsbD q.val = flag q) ∧ (flagMask flag).extractLsb' 6 2 = 0 := by
  revert flag; decide

theorem setupAwValue_facts (h : cfg.aw = 3 ∨ cfg.aw = 4 ∨ cfg.aw = 5) :
    (setupAwValue cfg).toNat = cfg.aw.toNat - 2 ∧ 1 ≤ (setupAwValue cfg).toNat ∧ (setupAwValue cfg).toNat ≤ 3 ∧
      (setupAwValue cfg).extractLsb' 2 6 = 0 ∧ ∀ draw, addressWidth draw (setupAwValue cfg) = some cfg.aw.toNat := by
  unfold setupAwValue
  obtain h | h | h := h <;> rw [h] <;> exact ⟨rfl, by decide, by decide, rfl, fun _ => rfl⟩

/-- Settles O18, register by register. -/
theorem registerValuesTranslate : Obligations.RegisterValuesTranslate := by
  intro p cfg activating h
  obtain ⟨hch, hrate, -, haw⟩ := validFields h
  obtain ⟨haa, haa'⟩ := flagMask_bits fun q => (cfg.pipe q).enabled && (cfg.pipe q).autoAck
  obtain ⟨hen, hen'⟩ := flagMask_bits fun q => (cfg.pipe q).enabled
  refine ⟨⟨_, rfl, rfl, rfChValue_facts hch⟩, ⟨?_, rfl, rfl⟩, ⟨_, rfl, rfl, haa, haa'⟩, ⟨_, rfl, rfl, hen, hen'⟩,
    ⟨_, rfl, rfl, setupAwValue_facts haw⟩⟩
  rw [← dataRateBits_eq hrate]
  rfl

/-- The three data rates. -/
theorem dataRate_cases {rate : BitVec 2} (h : rate ≠ 3) : rate = 0 ∨ rate = 1 ∨ rate = 2 := by
  revert rate; decide

/-- Settles O20, data rate by data rate. -/
theorem rfSetupCarriesDataRate : Obligations.RfSetupCarriesDataRate := by
  intro p cfg activating draw hbase h
  obtain ⟨-, hrate, -, -⟩ := validFields h
  refine ⟨_, rfl, ?_⟩
  rw [rfSetupValue, hbase]
  obtain h | h | h := dataRate_cases hrate <;> rw [h]
  · exact ⟨rfl, fun hne => absurd rfl hne, rfl, rfl, rfl, rfl⟩
  · exact ⟨rfl, fun _ => rfl, rfl, rfl, rfl, rfl⟩
  · exact ⟨rfl, fun _ => rfl, rfl, rfl, rfl, rfl⟩

/-! ## Reserved bits -/

/-- An address of R31 is one register's. -/
theorem ChipReg.at?_addr (r : ChipReg) : ChipReg.at? r.addr = some r := by
  cases r with
  | rxAddr p | rxPw p => revert p; decide
  | _ => decide

theorem ChipReg.addr_injective {r r' : ChipReg} (h : r.addr = r'.addr) : r = r' := by
  have h' := congrArg ChipReg.at? h
  rw [ChipReg.at?_addr, ChipReg.at?_addr] at h'
  exact Option.some.inj h'

/-- A byte whose bits 7:6 are 0. -/
theorem and_0xC0_of_extract {v : Byte} (h : v.extractLsb' 6 2 = 0) : v &&& 0xC0 = 0 := by
  revert v; decide

theorem pipeMask_reserved (cfg : Configuration) (f : Pipe → Bool) : pipeMask cfg f &&& 0xC0 = 0 := by
  obtain ⟨-, hupper⟩ := flagMask_bits fun p => f (cfg.pipe p)
  rw [pipeMask_eq]
  exact and_0xC0_of_extract hupper

theorem rfChValue_reserved (cfg : Configuration) : rfChValue cfg &&& 0x80 = 0 := by
  unfold rfChValue
  generalize cfg.channel = ch
  revert ch; decide

theorem rfSetupValue_reserved {p : Params} (hbase : p.rfSetupBase = 0x06) (cfg : Configuration) :
    rfSetupValue p cfg &&& 0x40 = 0 := by
  rw [rfSetupValue, hbase]
  generalize cfg.dataRate = rate
  revert rate; decide

theorem setupAwValue_reserved (h : cfg.aw = 3 ∨ cfg.aw = 4 ∨ cfg.aw = 5) : setupAwValue cfg &&& 0xFC = 0 := by
  unfold setupAwValue
  obtain h | h | h := h <;> rw [h] <;> rfl

theorem rxPwValue_reserved (cfg : Configuration) (q : Fin 6) : rxPwValue cfg q &&& 0xC0 = 0 := by
  have hsize : ∀ n : BitVec 6, n.setWidth 8 &&& (0xC0 : Byte) = 0 := by decide
  unfold rxPwValue
  split
  · exact hsize _
  · rfl

/-- The one-byte writes of an APPLY with the default parameters have their reserved bits 0. -/
theorem oneByteWrites_reserved {p : Params} (hbase : p.rfSetupBase = 0x06) (hfeature : p.featureDynamic = 0x05)
    (haw : cfg.aw = 3 ∨ cfg.aw = 4 ∨ cfg.aw = 5) :
    ∀ w ∈ oneByteWrites p cfg, w.2 &&& w.1.reservedBits .nRF24L01P = 0 := by
  simp only [oneByteWrites, List.forall_mem_append, List.forall_mem_cons, List.forall_mem_map]
  exact ⟨⟨rfChValue_reserved cfg, rfSetupValue_reserved hbase cfg, pipeMask_reserved .., pipeMask_reserved ..,
    setupAwValue_reserved haw, by rw [hfeature]; rfl, pipeMask_reserved .., nofun⟩, fun q _ => rxPwValue_reserved cfg q⟩

/-- APPLY's CONFIG has bit 7 clear: neither the bits kept nor the CRC bits hold it (R133). -/
theorem applyConfig_reserved (crc : BitVec 2) (shadow : Byte) :
    configValue applyKeep (crcBits crc) shadow &&& ChipReg.reservedBits .nRF24L01P .config = 0 := by
  have hkeep : applyKeep &&& ChipReg.reservedBits .nRF24L01P .config = 0 := by decide
  have hcrc : crcBits crc &&& ChipReg.reservedBits .nRF24L01P .config = 0 := by revert crc; decide
  rw [configValue, BitVec.and_or_distrib_right, BitVec.and_assoc, hkeep, hcrc]
  exact BitVec.or_zero.trans BitVec.and_zero

/-- Settles O21: a write to an address is a write to its one register, whose reserved bits the value does not have. -/
theorem reservedBitsWrittenZero : Obligations.ReservedBitsWrittenZero := by
  intro p cfg activating shadow hbase hfeature h
  obtain ⟨-, -, -, haw⟩ := validFields h
  refine ⟨fun r v hmem => ?_, applyConfig_reserved cfg.crc shadow⟩
  · obtain hc | ⟨q, w, hc⟩ | ⟨w, hw, hc⟩ := mem_registerWrites hmem
    · cases hc
    · obtain ⟨hr, -⟩ := Call.regWrite.inj hc
      rw [ChipReg.addr_injective hr]
      exact BitVec.and_zero
    · obtain ⟨hr, hv⟩ := Call.regWrite.inj hc
      obtain rfl := List.singleton_inj.mp hv
      rw [ChipReg.addr_injective hr]
      exact oneByteWrites_reserved hbase hfeature haw w hw

/-! ## The readings of a status byte -/

/-- Settles O46: the pipe codes above 5 are the last two of three bits. -/
theorem statusPredicates : Obligations.StatusPredicates := by
  have hcode : ∀ code : BitVec 3, decide (code ≤ 5) = false ↔ code = 0b110 ∨ code = 0b111 := by decide
  exact fun st => ⟨rfl, rfl, hcode (rxPipe st)⟩

end Sys2Proof.Machine
end

section
/-! PROOFS. The decoder reads back what the encoder writes (O1) and gives nothing ill-formed (O2); the bits of a header word and
the command bytes it does not know (O3, O5); words of the spec (O4). -/

namespace Sys2Proof

open Machine (frameOf)

variable {cmd dummy : Byte} {bs : List Byte} {i : Instr} {n : Nat}

/-! ## The data field -/

theorem Payload.front_length (h : n ≤ 32) (v : Payload) : (v.front n).length = n := by
  simp [Payload.front, h]

theorem Payload.front_eq_cons (h : 1 ≤ n) (v : Payload) : ∃ l, v.front n = v[0] :: l := by
  obtain ⟨m, rfl⟩ := Nat.exists_eq_add_of_le' h
  obtain ⟨⟨_ | ⟨b, l⟩⟩, hsize⟩ := v
  · cases hsize
  · exact ⟨l.take m, rfl⟩

/-- `n` bytes laid over a data field are its first `n` bytes. -/
theorem Payload.front_overlay_of_length (hl : bs.length = n) (hn : n ≤ 32) (v : Payload) :
    (Payload.overlay bs v).front n = bs := by
  subst hl
  exact Payload.front_overlay bs v hn

/-! ## Command bytes that carry an operand (R81, R82) -/

theorem decodeFrame_cmdRRegister (reg : BitVec 5) (bs : List Byte) :
    decodeFrame (cmdRRegister reg) bs =
      whenCount (1 ≤ bs.length && bs.length ≤ 5) (cmdRRegister reg) bs.length (.rRegister reg bs.length) := by
  have hrow : cmdRRegister reg &&& 0xE0 = 0x00 := by revert reg; decide
  have hreg : (cmdRRegister reg).extractLsb' 0 5 = reg := by revert reg; decide
  simp only [decodeFrame, if_pos hrow, hreg]

theorem decodeFrame_cmdWRegister (reg : BitVec 5) (bs : List Byte) :
    decodeFrame (cmdWRegister reg) bs =
      whenCount (1 ≤ bs.length && bs.length ≤ 5) (cmdWRegister reg) bs.length (.wRegister reg bs) := by
  have hread : ¬cmdWRegister reg &&& 0xE0 = 0x00 := by revert reg; decide
  have hrow : cmdWRegister reg &&& 0xE0 = 0x20 := by revert reg; decide
  have hreg : (cmdWRegister reg).extractLsb' 0 5 = reg := by revert reg; decide
  simp only [decodeFrame, if_neg hread, if_pos hrow, hreg]

/-- The six pipes of W_ACK_PAYLOAD. -/
theorem pipe_cases {pipe : BitVec 3} (h : pipe ≤ 5) :
    pipe = 0 ∨ pipe = 1 ∨ pipe = 2 ∨ pipe = 3 ∨ pipe = 4 ∨ pipe = 5 := by
  revert pipe; decide

theorem decodeFrame_cmdWAckPayload {pipe : BitVec 3} (h : pipe ≤ 5) (bs : List Byte) :
    decodeFrame (cmdWAckPayload pipe) bs =
      whenCount (1 ≤ bs.length && bs.length ≤ 32) (cmdWAckPayload pipe) bs.length (.wAckPayload pipe bs) := by
  obtain rfl | rfl | rfl | rfl | rfl | rfl := pipe_cases h <;> rfl

/-! ## Decoding what was encoded -/

/-- An SPI command is encoded as its frame. -/
theorem encodeWith_frame (h : frameOf dummy i = some (cmd, bs)) : encodeWith dummy i = frameOffer cmd bs := by
  cases i <;> cases h <;> rfl

/-- The operands of a well-formed W_ACK_PAYLOAD. -/
theorem wAckPayload_wellFormed_iff {pipe : BitVec 3} :
    (Instr.wAckPayload pipe bs).wellFormed = true ↔ pipe ≤ 5 ∧ 1 ≤ bs.length ∧ bs.length ≤ 32 := by
  simp [Instr.wellFormed, and_assoc]

/-- A register's data count (R82) fits a data field. -/
theorem registerCount_le (h : (decide (1 ≤ n) && decide (n ≤ 5)) = true) : n ≤ 32 := by
  obtain ⟨-, hle⟩ : 1 ≤ n ∧ n ≤ 5 := by simpa using h
  omega

/-- A well-formed SPI command's data bytes fit a data field. -/
theorem frameOf_length_le (hwf : i.wellFormed = true) (h : frameOf dummy i = some (cmd, bs)) : bs.length ≤ 32 := by
  cases i with
  | rRegister reg n => cases h; rw [List.length_replicate]; exact registerCount_le hwf
  | wRegister reg bytes => cases h; exact registerCount_le hwf
  | rRxPayload n => cases h; simpa [Instr.wellFormed] using hwf
  | wTxPayload bytes | wTxPayloadNoack bytes => cases h; exact of_decide_eq_true hwf
  | wAckPayload pipe bytes => cases h; obtain ⟨-, -, hle⟩ := wAckPayload_wellFormed_iff.mp hwf; exact hle
  | _ => cases h <;> simp

/-- The frame of a well-formed SPI command is read as that command. -/
theorem decodeFrame_frameOf (hwf : i.wellFormed = true) (h : frameOf dummy i = some (cmd, bs)) :
    decodeFrame cmd bs = .ok i := by
  cases i with
  | rRegister reg n => cases h; rw [decodeFrame_cmdRRegister, List.length_replicate]; exact if_pos hwf
  | wRegister reg bytes => cases h; rw [decodeFrame_cmdWRegister]; exact if_pos hwf
  | wAckPayload pipe bytes =>
    cases h
    obtain ⟨hpipe, hcount⟩ := wAckPayload_wellFormed_iff.mp hwf
    rw [decodeFrame_cmdWAckPayload hpipe]
    exact if_pos (by simpa using hcount)
  | rRxPayload n =>
    cases h
    show whenCount ((List.replicate n dummy).length ≤ 32) _ _ (.rRxPayload (List.replicate n dummy).length) = _
    rw [List.length_replicate]; exact if_pos hwf
  | wTxPayload bytes | wTxPayloadNoack bytes => cases h; exact if_pos hwf
  | _ => cases h <;> rfl

/-- A host request's header is read as that request. -/
theorem decode_encodeWith_request (h : frameOf dummy i = none) : (encodeWith dummy i).decode = .ok i := by
  cases i with
  | readRegister _ | writeRegister _ _ | sendCommand _ _ _ | apply _ | transitionPowerDown | transitionStandby
  | transitionTransmit | transitionReceive | writeTxPayload _ _ _ | readRxPayload _ | flushTx | flushRx =>
    exact congrArg decodeRequest (Request.ofHeader_headerWord ..)
  | _ => cases h

/-- Settles O1: a frame by its command byte, a host request by its header word. -/
theorem decodeEncodeRoundTrip : Obligations.DecodeEncodeRoundTrip := by
  intro dummy i hwf
  cases hf : frameOf dummy i with
  | none => exact decode_encodeWith_request hf
  | some frame =>
    obtain ⟨cmd, bs⟩ := frame
    rw [encodeWith_frame hf, frameOffer_decode _ _ (frameOf_length_le hwf hf), decodeFrame_frameOf hwf hf]

/-! ## What the decoder gives -/

/-- What the frame decoder can answer to a command byte with `n` data bytes: a well-formed instruction, or that the byte has no
row of R82, or that its row does not have that count. -/
inductive FrameAnswer (cmd : Byte) (n : Nat) : Except Reject Instr → Prop
  | instr {i : Instr} (hwf : i.wellFormed = true) : FrameAnswer cmd n (.ok i)
  | dataCount : FrameAnswer cmd n (.error (.dataCount cmd n))
  | undefined : FrameAnswer cmd n (.error (.undefinedCommand cmd))

theorem FrameAnswer.row {ok : Bool} (hwf : ok = true → i.wellFormed = true) :
    FrameAnswer cmd n (whenCount ok cmd n i) := by
  unfold whenCount
  split
  · exact .instr (hwf (by assumption))
  · exact .dataCount

theorem FrameAnswer.ite {c : Prop} [Decidable c] {d d' : Except Reject Instr} (hrow : c → FrameAnswer cmd n d)
    (helse : FrameAnswer cmd n d') : FrameAnswer cmd n (if c then d else d') := by
  split
  · exact hrow (by assumption)
  · exact helse

/-- The counts that the decoder checks, row by row, are those of a well-formed instruction. -/
theorem decodeFrame_answer (cmd : Byte) (bs : List Byte) : FrameAnswer cmd bs.length (decodeFrame cmd bs) :=
  .ite (fun _ => .row id) <| .ite (fun _ => .row id) <| .ite (fun _ => .row id) <| .ite (fun _ => .row id) <|
    .ite (fun _ => .row id) <| .ite (fun _ => .row fun _ => rfl) <| .ite (fun _ => .row fun _ => rfl) <|
    .ite (fun _ => .row fun _ => rfl) <| .ite (fun _ => .row fun _ => rfl) <| .ite (fun _ => .row fun _ => rfl) <|
    .ite (fun ⟨_, hpipe⟩ => .row fun hn => wAckPayload_wellFormed_iff.mpr ⟨hpipe, by simpa using hn⟩) <|
    .ite (fun _ => .row fun _ => rfl) .undefined

/-- A frame offer of more than 32 data bytes has no row; any other is its command byte's. -/
theorem Offer.frame_answer (cmd : Byte) (len : BitVec 6) (data : Payload) :
    FrameAnswer cmd len.toNat (Offer.frame cmd len data).decode := by
  refine .ite (fun hlen => ?_) .dataCount
  have hanswer := decodeFrame_answer cmd (data.front len.toNat)
  rwa [Payload.front_length hlen] at hanswer

/-- A host request is well formed whatever its operands. -/
theorem decodeRequest_wellFormed {r : Request} (h : decodeRequest r = .ok i) : i.wellFormed = true := by
  unfold decodeRequest at h
  split_ifs at h <;> cases h <;> rfl

/-- Settles O2: a frame of at most 32 bytes by its command byte, a host request whatever it holds. -/
theorem decodedInstructionsAreWellFormed : Obligations.DecodedInstructionsAreWellFormed := by
  intro o i h
  cases o with
  | request header data cfg => exact decodeRequest_wellFormed h
  | frame cmd len data =>
    have hanswer := Offer.frame_answer cmd len data
    rw [h] at hanswer
    cases hanswer with
    | instr hwf => exact hwf

/-! ## Undefined command bytes (R84) -/

/-- A row of the decoder does not answer that the byte is undefined. -/
theorem ite_whenCount_eq_undefined {c : Prop} [Decidable c] {ok : Bool} {d : Except Reject Instr} :
    (if c then whenCount ok cmd n i else d) = .error (.undefinedCommand cmd) ↔
      ¬c ∧ d = .error (.undefinedCommand cmd) := by
  have hcount : whenCount ok cmd n i ≠ .error (.undefinedCommand cmd) := by
    unfold whenCount
    split <;> simp
  split <;> simp [*]

/-- Settles O5: the bytes undefined are those of no row, whatever data follows, and those are the bytes listed. -/
theorem undefinedCommandBytes : Obligations.UndefinedCommandBytes := by
  intro cmd bs
  simp only [decodeFrame, ite_whenCount_eq_undefined, and_true]
  revert cmd
  decide

/-! ## Header words (R87) -/

/-- A field that a mask leaves whole reads the same through it. -/
theorem extractLsb'_and_of_allOnes {w lo : Nat} {mask : BitVec 32} (hmask : mask.extractLsb' lo w = BitVec.allOnes w)
    (h : BitVec 32) : (h &&& mask).extractLsb' lo w = h.extractLsb' lo w := by
  rw [BitVec.extractLsb'_and, hmask, BitVec.and_allOnes]

/-- No field of a request record holds a reserved bit. -/
theorem Request.ofHeader_unreserved (h : BitVec 32) (data : Payload) (cfg : Configuration) :
    Request.ofHeader (h &&& 0x3FFF1F7F) data cfg = Request.ofHeader h data cfg := by
  have hack : (h &&& 0x3FFF1F7F).getLsbD 6 = h.getLsbD 6 := by simp
  simp (disch := decide) only [Request.ofHeader, hack, extractLsb'_and_of_allOnes]

/-- Settles O3: the decoder and the sequencer see a header word only as its request record. -/
theorem reservedHeaderBitsIgnored : Obligations.ReservedHeaderBitsIgnored := by
  intro h data cfg
  simp only [Offer.decode, Offer.record, Request.ofHeader_unreserved, and_self]

/-- Settles O4, word by word. -/
theorem specWordsDecode : Obligations.SpecWordsDecode := by
  unfold Obligations.SpecWordsDecode
  decide

end Sys2Proof
end

section
/-! PROOFS. What spells no instruction (O9, O10), and SPI commands as SEND_COMMAND (O12). -/

namespace Sys2Proof.Machine

variable {s t : State} {o : Offer} {rest : List Offer} {r : Reject} {cmd : Byte} {len : BitVec 6} {data : Payload}
  {bs rx : List Byte} {e : BusError}

/-! ## Requests that end without a call -/

/-- An offer whose step makes no call is over in that step, suspended or not (R17). -/
theorem step_taking_silent (hr : s.resetLevel = false) (hb : s.seq.busy = false) (ho : s.env.requests = o :: rest)
    (h : execHeld o.decode (s.sampled.accept o) = .next t) (hev : t.env.events = s.env.events) : step s = .next t := by
  have hheld : execHeld (s.sampled.accept o).seq.held (s.sampled.accept o) = .next t := by rwa [State.accept_held]
  rw [step_of_fetch hr (State.fetch_offer (s := s.sampled) hb ho)]
  cases s.suspended with
  | false => exact hheld
  | true => exact State.runHeld_suspended_silent hheld hev

/-- Taking an offer leaves the rest of what the host presents. -/
theorem State.accept_requests (ho : s.env.requests = o :: rest) : (s.accept o).env.requests = rest :=
  congrArg List.tail ho

/-- Taking an offer writes no register but `seq` and `res` (R8). -/
theorem State.taken_regs (s : State) (o : Offer) : (s.sampled.accept o).regs = s.regs :=
  (State.accept_regs ..).trans (State.sampled_regs s)

/-- The request codes 9..15 are reserved (R89). -/
theorem decodeRequest_reserved {q : Request} (h : 9 ≤ q.op) : decodeRequest q = .error (.reservedOp q.op) := by
  have hrows : ∀ op : BitVec 4, 9 ≤ op → op ≠ 0 ∧ op ≠ 1 ∧ op ≠ 2 ∧ op ≠ 3 ∧ op ≠ 4 ∧ op ≠ 5 ∧ op ≠ 6 ∧ op ≠ 7 ∧ op ≠ 8 := by
    decide
  obtain ⟨h0, h1, h2, h3, h4, h5, h6, h7, h8⟩ := hrows q.op h
  simp only [decodeRequest, h0, h1, h2, h3, h4, h5, h6, h7, h8, if_false]

/-- Settles O9: a reserved code raises IllegalRequest, which makes no call. -/
theorem reservedCodesAreIllegalRequests : Obligations.ReservedCodesAreIllegalRequests := by
  intro s h data cfg rest hr hb ho hop
  have hd : (Offer.request h data cfg).decode = .error (.reservedOp (h.extractLsb' 0 4)) := decodeRequest_reserved hop
  have hexec : execHeld (Offer.request h data cfg).decode (s.sampled.accept (.request h data cfg)) =
      .next ((s.sampled.accept (.request h data cfg)).raise .illegalRequest) := by
    rw [hd]
    rfl
  have hregs := State.taken_regs s (.request h data cfg)
  exact ⟨_, step_taking_silent hr hb ho hexec rfl, ⟨rfl, rfl⟩, rfl, rfl, hregs, rfl,
    State.accept_requests (s := s.sampled) ho⟩

/-! ## Raw transactions (R109) -/

/-- Up to 32 data bytes SEND_COMMAND is the raw transaction of its bytes. -/
theorem State.sendCommand_of_le (h : len ≤ 32) (cmd : Byte) (data : Payload) (s : State) :
    s.sendCommand cmd len data = s.sendRaw cmd (data.front len.toNat) :=
  if_neg (BitVec.not_lt.mpr h)

/-- More than 32 data bytes are refused. -/
theorem State.sendCommand_of_gt (h : 32 < len) (cmd : Byte) (data : Payload) (s : State) :
    s.sendCommand cmd len data = s.raise (.payloadTooLarge (len.setWidth 8) 32) :=
  if_pos h

/-- `config_shadow` after SEND_COMMAND (R22, R109). -/
theorem shadowAfter_front (cmd : Byte) (len : BitVec 6) (data : Payload) (shadow : Byte) :
    shadowAfter cmd (data.front len.toNat) shadow = if cmd = 0x20 ∧ 1 ≤ len then data[0] else shadow := by
  by_cases hlen : 1 ≤ len
  · obtain ⟨l, hl⟩ := Payload.front_eq_cons hlen data
    simp only [hl, shadowAfter, hlen, and_true]
  · have hzero : len = 0 := by bv_omega
    simp [hzero, Payload.front, shadowAfter]

/-- `features_active` after SEND_COMMAND (R25, R109). -/
theorem featuresAfter_front (cmd : Byte) (len : BitVec 6) (data : Payload) (active : Bool) :
    featuresAfter cmd (data.front len.toNat) active =
      if cmd = 0x50 ∧ 1 ≤ len ∧ data[0] = 0x73 then !active else active := by
  by_cases hlen : 1 ≤ len
  · obtain ⟨l, hl⟩ := Payload.front_eq_cons hlen data
    simp only [hl, featuresAfter, hlen, true_and]
  · have hzero : len = 0 := by bv_omega
    simp [hzero, Payload.front, featuresAfter]

/-- SEND_COMMAND when the bus answers. -/
theorem State.sendCommand_ok (hlen : len ≤ 32) (h : s.spiReply (len.toNat + 1) = .ok rx) (cmd : Byte) (data : Payload) :
    s.sendCommand cmd len data =
      (((s.received (cmd :: data.front len.toNat) rx).setConfigShadow
            (if cmd = 0x20 ∧ 1 ≤ len then data[0] else s.configShadow)).setFeaturesActive
          (if cmd = 0x50 ∧ 1 ≤ len ∧ data[0] = 0x73 then !s.featuresActive else s.featuresActive)).succeed fun res =>
        { res with len := len, data := Payload.overlay (rx.drop 1) res.data } := by
  have hcount : (data.front len.toNat).length = len.toNat := Payload.front_length hlen data
  rw [State.sendCommand_of_le hlen, State.sendRaw_ok (by rwa [hcount]), hcount, shadowAfter_front, featuresAfter_front]
  simp only [BitVec.ofNat_toNat, BitVec.setWidth_eq]

/-- SEND_COMMAND when the bus fails. -/
theorem State.sendCommand_error (hlen : len ≤ 32) (h : s.spiReply (len.toNat + 1) = .error e) (cmd : Byte)
    (data : Payload) : s.sendCommand cmd len data = s.busFailed (cmd :: data.front len.toNat) e := by
  rw [State.sendCommand_of_le hlen]
  exact State.xfer_error _ (by rwa [List.length_cons, Payload.front_length hlen])

/-! ## Frames that spell no SPI command (R84, R115) -/

/-- A frame that spells no instruction ends as SEND_COMMAND of its bytes does. -/
theorem execRejected_frame (h : (Offer.frame cmd len data).decode = .error r) (s : State) :
    execRejected r (s.accept (.frame cmd len data)) =
      .next ((s.accept (.frame cmd len data)).sendCommand cmd len data) := by
  have hanswer := Offer.frame_answer cmd len data
  rw [h] at hanswer
  cases hanswer <;> rfl

/-- Settles O10: the step is that of SEND_COMMAND, by its count and what the bus answers. -/
theorem undefinedBytesGoOutUnchanged : Obligations.UndefinedBytesGoOutUnchanged := by
  intro s cmd len data rest r hr hb ho hd
  have hexec : execHeld (Offer.frame cmd len data).decode (s.sampled.accept (.frame cmd len data)) =
      .next ((s.sampled.accept (.frame cmd len data)).sendCommand cmd len data) := by
    rw [hd, execHeld_error, execRejected_frame hd]
  have hregs := State.taken_regs s (.frame cmd len data)
  have hrest := State.accept_requests (s := s.sampled) ho
  refine ⟨fun rx hlen hs hreply => ?_, fun e hlen hs hreply => ?_, fun hlen => ?_⟩
  · have hrx : (rx.drop 1).length = len.toNat := by simp [State.spiReply_length hreply]
    rw [State.sendCommand_ok hlen hreply] at hexec
    refine ⟨_, (step_taking hr hb ho hs).trans hexec, ⟨rfl, rfl⟩, rfl, rfl, rfl, rfl, ?_, ?_, hrest, rfl⟩
    · exact Payload.front_overlay_of_length hrx hlen _
    · simp [State.regs_eq_iff]
  · rw [State.sendCommand_error hlen hreply] at hexec
    exact ⟨_, (step_taking hr hb ho hs).trans hexec, ⟨rfl, rfl⟩, rfl, rfl, rfl, hregs, hrest, rfl⟩
  · rw [State.sendCommand_of_gt hlen] at hexec
    exact ⟨_, step_taking_silent hr hb ho hexec rfl, ⟨rfl, rfl⟩, rfl, rfl, rfl, rfl, hregs, hrest, rfl⟩

/-! ## SPI commands (log 10) -/

/-- SEND_COMMAND of at most 32 bytes written out is the raw transaction of them. -/
theorem State.sendCommand_ofList (h : bs.length ≤ 32) (cmd : Byte) (s : State) :
    s.sendCommand cmd (BitVec.ofNat 6 bs.length) (Payload.ofList bs) = s.sendRaw cmd bs := by
  have hlen : (BitVec.ofNat 6 bs.length).toNat = bs.length := by simp; omega
  rw [State.sendCommand_of_le (by simpa [BitVec.le_def, hlen] using h), hlen, Payload.ofList, Payload.front_overlay _ _ h]

/-- Settles O12: both are the raw transaction of the frame, whose bytes fit a data field. -/
theorem spiCommandIsSendCommand : Obligations.SpiCommandIsSendCommand := by
  intro i s cmd bs hwf hf
  calc exec i s = .next (s.sendRaw cmd bs) := exec_frame hf
    _ = .next (s.sendCommand cmd (BitVec.ofNat 6 bs.length) (Payload.ofList bs)) := by
      rw [State.sendCommand_ofList (frameOf_length_le hwf hf)]

end Sys2Proof.Machine
end

section
/-! PROOFS. Raw transactions and register access (O11, O13-O15), and the width read of READ_RX_PAYLOAD (O43). -/

namespace Sys2Proof.Machine

variable {s : State} {bs rx : List Byte} {addr : BitVec 5} {n : Nat} {e : BusError} {len : Byte}
  {cap : BitVec 6}

/-! ## What a transaction leaves -/

@[simp] theorem State.setSeq_regs (q : Seq) (s : State) : (s.setSeq q).regs = s.regs := rfl

/-- The whole outcome of a request whose transaction fails: Transport(e), and nothing written (R102, R213). -/
theorem State.busFailed_outcome (tx : List Byte) (e : BusError) (s : State) :
    (s.busFailed tx e).Ended ∧ (s.busFailed tx e).regs = s.regs ∧ Traced s (s.busFailed tx e) [.xferError tx e] ∧
      (s.busFailed tx e).res.err = 1 ∧ (s.busFailed tx e).res.busErr = e :=
  ⟨⟨rfl, rfl⟩, rfl, ⟨rfl, rfl, rfl, rfl⟩, rfl, rfl⟩

theorem cmdRRegister_eq (a : BitVec 5) : cmdRRegister a = a.setWidth 8 := BitVec.zero_or

/-- `RegRead` when the bus answers (R100). -/
theorem State.regRead_ok (f : List Byte → State → State) (h : s.spiReply (n + 1) = .ok rx) :
    s.regRead addr n f = f rx (s.received (addr.setWidth 8 :: List.replicate n s.params.dummy) rx) := by
  rw [State.regRead, cmdRRegister_eq]
  exact State.xfer_ok f (by simpa using h)

/-- `RegRead` when the bus fails (R100). -/
theorem State.regRead_error (f : List Byte → State → State) (h : s.spiReply (n + 1) = .error e) :
    s.regRead addr n f = s.busFailed (addr.setWidth 8 :: List.replicate n s.params.dummy) e := by
  rw [State.regRead, cmdRRegister_eq]
  exact State.xfer_error f (by simpa using h)

/-- `RegWrite` when the bus answers (R101). -/
theorem State.regWrite_ok (f : State → State) (h : s.spiReply (bs.length + 1) = .ok rx) :
    s.regWrite addr bs f = f (s.received (cmdWRegister addr :: bs) rx) :=
  State.xfer_ok _ h

/-- `RegWrite` when the bus fails (R101). -/
theorem State.regWrite_error (f : State → State) (h : s.spiReply (bs.length + 1) = .error e) :
    s.regWrite addr bs f = s.busFailed (cmdWRegister addr :: bs) e :=
  State.xfer_error _ h

/-! ## SPI commands (R100-R114) -/

/-- `config_shadow` after a raw transaction (R22), by its bytes. -/
theorem shadowAfter_eq_ite (cmd : Byte) (bs : List Byte) (shadow : Byte) :
    shadowAfter cmd bs shadow = if cmd = 0x20 ∧ bs ≠ [] then bs.headD 0 else shadow := by
  cases bs <;> simp [shadowAfter]

/-- `features_active` after a raw transaction (R25), by its bytes. -/
theorem featuresAfter_eq_ite (cmd : Byte) (bs : List Byte) (active : Bool) :
    featuresAfter cmd bs active = if cmd = 0x50 ∧ bs.head? = some 0x73 then !active else active := by
  cases bs <;> simp [featuresAfter]

/-- Settles O11: an SPI command is the raw transaction of its frame, which hands over the response and moves the two shadows. -/
theorem spiCommandsComplete : Obligations.SpiCommandsComplete := by
  intro i s cmd bs rx hf hreply
  have hresponse : (rx.drop 1).length = bs.length := by simp [State.spiReply_length hreply]
  refine ⟨_, (exec_frame hf).trans (congrArg _ (State.sendRaw_ok hreply)), ⟨rfl, rfl⟩, ⟨rfl, rfl, rfl, rfl⟩, rfl, rfl, rfl,
    fun hfits => ⟨?_, ?_⟩, rfl, rfl, rfl, rfl, rfl, shadowAfter_eq_ite .., featuresAfter_eq_ite ..⟩
  · exact Nat.mod_eq_of_lt (by omega)
  · exact Payload.front_overlay_of_length hresponse hfits _

/-! ## Raw requests (R103, R106, R109) -/

/-- Settles O13, by what the bus answers. -/
theorem readRegisterCompletes : Obligations.ReadRegisterCompletes := by
  intro addr s
  refine ⟨fun rx hreply => ?_, fun e hreply => ?_⟩
  · exact ⟨_, congrArg Host.Outcome.next (State.regRead_ok (n := 1) _ hreply), ⟨rfl, rfl⟩, by simp, ⟨rfl, rfl, rfl, rfl⟩,
      rfl, rfl, rfl, rfl⟩
  · exact ⟨_, congrArg Host.Outcome.next (State.regRead_error (n := 1) _ hreply), State.busFailed_outcome ..⟩

/-- Settles O14, by what the bus answers, and then by whether the register is CONFIG. -/
theorem writeRegisterCompletes : Obligations.WriteRegisterCompletes := by
  intro addr value s
  refine ⟨fun rx hreply => ?_, fun e hreply => ?_⟩
  · refine ⟨_, congrArg Host.Outcome.next (State.regWrite_ok (bs := [value]) _ hreply), ?_⟩
    by_cases hconfig : addr = 0
    · simp only [if_pos hconfig]
      exact ⟨⟨rfl, rfl⟩, by simp [State.regs_eq_iff], ⟨rfl, rfl, rfl, rfl⟩, rfl, rfl, rfl⟩
    · simp only [if_neg hconfig]
      exact ⟨⟨rfl, rfl⟩, by simp, ⟨rfl, rfl, rfl, rfl⟩, rfl, rfl, rfl⟩
  · exact ⟨_, congrArg Host.Outcome.next (State.regWrite_error (bs := [value]) _ hreply), State.busFailed_outcome ..⟩

/-- Settles O15, by the count and what the bus answers. -/
theorem sendCommandCompletes : Obligations.SendCommandCompletes := by
  intro opcode len data s
  refine ⟨fun rx hlen hreply => ?_, fun e hlen hreply => ?_, fun hlen => ?_⟩
  · have hresponse : (rx.drop 1).length = len.toNat := by simp [State.spiReply_length hreply]
    exact ⟨_, congrArg Host.Outcome.next (State.sendCommand_ok hlen hreply opcode data), ⟨rfl, rfl⟩, ⟨rfl, rfl, rfl, rfl⟩,
      rfl, rfl, rfl, rfl, Payload.front_overlay_of_length hresponse hlen _, by simp [State.regs_eq_iff]⟩
  · exact ⟨_, congrArg Host.Outcome.next (State.sendCommand_error hlen hreply opcode data), State.busFailed_outcome ..⟩
  · exact ⟨_, congrArg Host.Outcome.next (State.sendCommand_of_gt hlen opcode data s), ⟨rfl, rfl⟩, rfl, ⟨rfl, rfl, rfl, rfl⟩,
      rfl, rfl, rfl⟩

/-! ## The width read of READ_RX_PAYLOAD (R187, R189 (a)) -/

theorem State.rxLength_of_gt (h : cap.setWidth 8 < len) (s : State) :
    s.rxLength cap len = s.raise (.payloadTooLarge len (cap.setWidth 8)) :=
  if_pos h

theorem State.rxLength_of_le (h : len ≤ cap.setWidth 8) (s : State) : s.rxLength cap len = s.advance :=
  if_neg (BitVec.not_lt.mpr h)

/-- A width above 32 that is read ends the request (R187). -/
theorem State.rxWidthCall_of_gt (h : s.spiReply 2 = .ok rx) (hw : 32 < byteAt rx 1) (cap : BitVec 6) :
    s.rxWidthCall cap =
      (s.received [cmdRRxPlWid, s.params.dummy] rx).raise (.payloadTooLarge (byteAt rx 1) 32) :=
  (State.xfer_ok (tx := [cmdRRxPlWid, s.params.dummy]) _ h).trans (if_pos hw)

/-- A width up to 32 that is read is held, and compared with the host's capacity (R187, R189 (a)). -/
theorem State.rxWidthCall_of_le (h : s.spiReply 2 = .ok rx) (hw : byteAt rx 1 ≤ 32) (cap : BitVec 6) :
    s.rxWidthCall cap =
      ((s.received [cmdRRxPlWid, s.params.dummy] rx).setSeq { s.seq with width := byteAt rx 1 }).rxLength cap
        (byteAt rx 1) :=
  (State.xfer_ok (tx := [cmdRRxPlWid, s.params.dummy]) _ h).trans (if_neg (BitVec.not_lt.mpr hw))

@[simp] theorem State.rxLength_env (cap : BitVec 6) (len : Byte) (s : State) : (s.rxLength cap len).env = s.env := by
  unfold State.rxLength
  split <;> rfl

@[simp] theorem State.rxLength_regs (cap : BitVec 6) (len : Byte) (s : State) : (s.rxLength cap len).regs = s.regs := by
  obtain ⟨-, hregs⟩ := rxLength_quiet cap len s
  exact hregs

/-- The width read writes no register, and is its one transaction, whatever width it reads. -/
theorem State.rxWidthCall_frame (h : s.spiReply 2 = .ok rx) (cap : BitVec 6) :
    (s.rxWidthCall cap).regs = s.regs ∧ Traced s (s.rxWidthCall cap) [.xfer [cmdRRxPlWid, s.params.dummy] rx] := by
  by_cases hw : byteAt rx 1 ≤ 32
  · rw [State.rxWidthCall_of_le h hw]
    simp [Traced]
  · rw [State.rxWidthCall_of_gt h (BitVec.not_le.mp hw)]
    simp [Traced]

/-- Settles O43, by how the width read compares with 32 and with the host's capacity. -/
theorem readRxWidthRead : Obligations.ReadRxWidthRead := by
  intro cap s rx hdynamic hk hreply
  have hexec : exec (.readRxPayload cap) s = .next (s.rxWidthCall cap) :=
    execReadRxPayload_width hk (by simp [hdynamic])
  obtain ⟨hregs, htraced⟩ := State.rxWidthCall_frame hreply cap
  refine ⟨_, hexec, hregs, htraced, fun hw => ?_, fun hw hcap => ?_, fun hw hcap => ?_⟩
  · rw [State.rxWidthCall_of_gt hreply hw]
    exact ⟨⟨rfl, rfl⟩, rfl, rfl, rfl⟩
  · rw [State.rxWidthCall_of_le hreply hw, State.rxLength_of_gt hcap]
    exact ⟨⟨rfl, rfl⟩, rfl, rfl, rfl⟩
  · rw [State.rxWidthCall_of_le hreply hw, State.rxLength_of_le hcap]
    exact ⟨rfl, by simp [hk], rfl⟩

end Sys2Proof.Machine
end

section
/-! PROOFS. `Validate` (O16): its checks in R123's order, and the first of them that fails. -/

namespace Sys2Proof.Machine

/-! ## The first failing check of a list -/

/-- `answer` is the code of the first check of the list that fails, none when all pass. -/
inductive FirstFailure : List (Prop × BitVec 4) → Option (BitVec 4) → Prop
  | passed : FirstFailure [] none
  | fails {failed code rest} (h : failed) : FirstFailure ((failed, code) :: rest) (some code)
  | later {failed code rest answer} (h : ¬failed) (hrest : FirstFailure rest answer) :
    FirstFailure ((failed, code) :: rest) answer

variable {cfg : Configuration} {code : BitVec 4} {failed : Prop} {rest : List (Prop × BitVec 4)}
  {answer : Option (BitVec 4)}

/-- A check that fails, with none before it failing, gives the answer. -/
theorem FirstFailure.eq_some {checks : List (Prop × BitVec 4)} {n : Nat} (h : FirstFailure checks answer)
    (hn : checks[n]? = some (failed, code)) (hfailed : failed)
    (hfirst : ∀ m earlier c, m < n → checks[m]? = some (earlier, c) → ¬earlier) : answer = some code := by
  induction h generalizing n with
  | passed => cases hn
  | fails h =>
    cases n with
    | zero => cases hn; rfl
    | succ n => exact absurd h (hfirst 0 _ _ n.succ_pos rfl)
  | later h _ ih =>
    cases n with
    | zero => cases hn; exact absurd hfailed h
    | succ n => exact ih hn fun m earlier c hm hc => hfirst (m + 1) earlier c (Nat.succ_lt_succ hm) hc

/-- There is no answer when every check passes. -/
theorem FirstFailure.eq_none_iff {checks : List (Prop × BitVec 4)} (h : FirstFailure checks answer) :
    answer = none ↔ ∀ check ∈ checks, ¬check.1 := by
  induction h with
  | passed => simp
  | fails h => simp [h]
  | later h _ ih => simp [h, ih]

/-- One check of `Validate`, and those behind it. -/
theorem FirstFailure.ite {c : Prop} {_ : Decidable c} {reason : ConfigReason} {d : Option ConfigReason} (hc : c ↔ failed)
    (hrest : FirstFailure rest (d.map ConfigReason.code)) (hcode : reason.code = code := by rfl) :
    FirstFailure ((failed, code) :: rest) ((if c then some reason else d).map ConfigReason.code) := by
  subst hcode
  by_cases h : c
  · rw [if_pos h]
    exact .fails (hc.mp h)
  · rw [if_neg h]
    exact .later (mt hc.mpr h) hrest

/-! ## The checks (R123) -/

theorem mem_allPipes (p : Fin 6) : p ∈ allPipes := by revert p; decide

theorem mem_upperPipes {p : Fin 6} : p ∈ upperPipes ↔ 2 ≤ p.val := by revert p; decide

theorem upperEnabled_iff : upperEnabled cfg = true ↔ ∃ p : Fin 6, 2 ≤ p.val ∧ (cfg.pipe p).enabled = true := by
  simp only [upperEnabled, List.any_eq_true, mem_upperPipes]

theorem lengthMismatch_iff :
    lengthMismatch cfg = true ↔ ∃ p : Fin 6, (cfg.pipe p).enabled = true ∧ (cfg.pipe p).addrLen ≠ cfg.aw := by
  simp [lengthMismatch, mem_allPipes]

theorem notRepresentable_iff :
    notRepresentable cfg = true ↔ ∃ p : Fin 6, 2 ≤ p.val ∧ (cfg.pipe p).enabled = true ∧
      ((cfg.pipe p).addr.toList.take cfg.aw.toNat).drop 1 ≠ ((cfg.pipe 1).addr.toList.take cfg.aw.toNat).drop 1 := by
  simp only [notRepresentable, List.any_eq_true, mem_upperPipes, Bool.and_eq_true, bne_iff_ne, upperBytes, Pipe.addrBytes]

theorem noPipeEnabled_iff :
    (allPipes.all fun p => !(cfg.pipe p).enabled) = true ↔ ∀ p : Fin 6, (cfg.pipe p).enabled = false := by
  simp [mem_allPipes]

theorem addressWidth_fails_iff {aw : BitVec 3} : ¬(aw = 3 ∨ aw = 4 ∨ aw = 5) ↔ aw.toNat ∉ [3, 4, 5] := by
  revert aw; decide

theorem staticSize_fails_iff {n : BitVec 6} : (n = 0 ∨ 32 < n) ↔ (n.toNat = 0 ∨ 32 < n.toNat) := by
  revert n; decide

/-- `Validate` answers with the first failing check of R123's list. -/
theorem validate_firstFailure (cfg : Configuration) :
    FirstFailure (validateChecks cfg) ((validate cfg).map ConfigReason.code) :=
  .ite Iff.rfl <| .ite Iff.rfl <| .ite Iff.rfl <| .ite addressWidth_fails_iff <| .ite lengthMismatch_iff <|
    .ite (and_congr_left' upperEnabled_iff) <| .ite notRepresentable_iff <|
      .ite (and_congr_right' staticSize_fails_iff) <| .ite noPipeEnabled_iff .passed

/-- Settles O16: the answer is the first failing check's, and there is none when each of the nine passes. -/
theorem validateAccepts : Obligations.ValidateAccepts := by
  refine ⟨fun cfg _ _ _ hn hfailed hfirst => (validate_firstFailure cfg).eq_some hn hfailed hfirst, fun cfg => ?_⟩
  rw [← Option.map_eq_none_iff, (validate_firstFailure cfg).eq_none_iff]
  simp only [validateChecks, List.forall_mem_cons]
  constructor
  · rintro ⟨hch, hrate, hcrc, haw, hlen, hone, hupper, hsize, hen, -⟩
    simp only [List.mem_cons, List.not_mem_nil, or_false, not_not] at haw
    push Not at hch hlen hone hupper hsize hen
    exact ⟨hch, hrate, hcrc, by omega, by omega, hlen, fun p hp hpe => ⟨hone ⟨p, hp, hpe⟩, hupper p hp hpe⟩,
      fun hd => ⟨Nat.one_le_iff_ne_zero.mpr (hsize hd).1, (hsize hd).2⟩, by simpa using hen⟩
  · rintro ⟨hch, hrate, hcrc, haw, haw', hlen, hupper, hsize, p, hp⟩
    refine ⟨by omega, hrate, hcrc, ?_, ?_, ?_, ?_, ?_, ?_, nofun⟩
    · simp; omega
    · exact fun ⟨p, hpe, hne⟩ => hne (hlen p hpe)
    · exact fun ⟨⟨p, hp, hpe⟩, hne⟩ => hne (hupper p hp hpe).1
    · exact fun ⟨p, hp, hpe, hne⟩ => hne (hupper p hp hpe).2
    · exact fun ⟨hd, hn⟩ => by have := hsize hd; omega
    · exact fun hall => by simp [hall p] at hp

end Sys2Proof.Machine
end

section
/-! PROOFS. Which registers APPLY writes before CONFIG, with what values, and in which order (O19). -/

namespace Sys2Proof.Machine

variable {p : Params} {cfg : Configuration} {a : Bool} {v : List Byte}

/-! ## Which registers are written (R125, R131, R132) -/

theorem addrBytes_one (pipe : Pipe) : pipe.addrBytes 1 = [pipe.addr[0]] := by
  obtain ⟨_, _, _, ⟨⟨l⟩, hl⟩⟩ := pipe
  cases l with
  | nil => cases hl
  | cons b bs => rfl

/-- Two writes are one when their registers and bytes are. -/
theorem regWrite_addr_inj {r r' : ChipReg} {v v' : List Byte} :
    Call.regWrite r.addr v = .regWrite r'.addr v' ↔ r = r' ∧ v = v' := by
  rw [Call.regWrite.injEq]
  exact and_congr_left' ⟨ChipReg.addr_injective, congrArg _⟩

/-- The bytes of an RX address that APPLY writes: `aw` for pipes 0 and 1, one for the others (R131). -/
def rxAddrBytes (cfg : Configuration) (q : Fin 6) : List Byte :=
  if q.val ≤ 1 then (cfg.pipe q).addr.toList.take cfg.aw.toNat else [(cfg.pipe q).addr[0]]

/-- An RX address is written for an enabled pipe, and for pipe 1 when an upper pipe is enabled (R131). -/
def writesAddress (cfg : Configuration) (q : Fin 6) : Prop :=
  (cfg.pipe q).enabled = true ∨ q = 1 ∧ ∃ r : Fin 6, 2 ≤ r.val ∧ (cfg.pipe r).enabled = true

theorem mem_addressWrites {c : Call} :
    c ∈ addressWrites cfg ↔ ∃ q, writesAddress cfg q ∧ c = .regWrite (ChipReg.rxAddr q).addr (rxAddrBytes cfg q) := by
  simp only [addressWrites, List.mem_append, List.mem_ite_nil_right, List.mem_singleton, List.mem_map, List.mem_filter,
    Bool.or_eq_true, upperEnabled_iff, mem_upperPipes, addrBytes_one]
  constructor
  · rintro ((⟨h, rfl⟩ | ⟨h, rfl⟩) | ⟨q, ⟨hq, h⟩, rfl⟩)
    · exact ⟨0, .inl h, rfl⟩
    · exact ⟨1, h.imp_right fun h => ⟨rfl, h⟩, rfl⟩
    · exact ⟨q, .inl h, by rw [rxAddrBytes, if_neg (by omega)]⟩
  · rintro ⟨q, h, rfl⟩
    by_cases hq : 2 ≤ q.val
    · have hne : q ≠ 1 := by rintro rfl; omega
      exact .inr ⟨q, ⟨hq, h.resolve_right fun h => hne h.1⟩, by rw [rxAddrBytes, if_neg (by omega)]⟩
    · obtain rfl | rfl : q = 0 ∨ q = 1 := by omega
      · exact .inl (.inl ⟨h.resolve_right (by simp), rfl⟩)
      · exact .inl (.inr ⟨h.imp_right And.right, rfl⟩)

theorem mem_sizingWrites {c : Call} :
    c ∈ sizingWrites p cfg a ↔
      (cfg.pmDynamic = true ∧ (a = true ∧ c = .activate ∨ c = .regWrite ChipReg.feature.addr [p.featureDynamic] ∨
          c = .regWrite ChipReg.dynpd.addr [enabledMask cfg])) ∨
        (cfg.pmDynamic = false ∧ ∃ q, c = .regWrite (ChipReg.rxPw q).addr [rxPwValue cfg q]) := by
  unfold sizingWrites
  cases cfg.pmDynamic <;> simp [mem_allPipes, eq_comm]

/-- What APPLY writes to a register before CONFIG, and when. -/
def Writes (p : Params) (cfg : Configuration) (v : List Byte) : ChipReg → Prop
  | .rfCh => v = [rfChValue cfg]
  | .rfSetup => v = [rfSetupValue p cfg]
  | .enAa => v = [enAaValue cfg]
  | .enRxaddr => v = [enabledMask cfg]
  | .setupAw => v = [setupAwValue cfg]
  | .rxAddr q => writesAddress cfg q ∧ v = rxAddrBytes cfg q
  | .rxPw q => cfg.pmDynamic = false ∧ v = [rxPwValue cfg q]
  | .feature => cfg.pmDynamic = true ∧ v = [p.featureDynamic]
  | .dynpd => cfg.pmDynamic = true ∧ v = [enabledMask cfg]
  | .config | .setupRetr | .status | .observeTx | .cdRpd | .txAddr | .fifoStatus => False

theorem regWrite_mem_registerWrites (r : ChipReg) :
    .regWrite r.addr v ∈ registerWrites p cfg a ↔ Writes p cfg v r := by
  simp only [registerWrites, List.mem_append, List.mem_cons, List.not_mem_nil, or_false, mem_addressWrites,
    mem_sizingWrites, regWrite_addr_inj, reduceCtorEq, and_false, false_or]
  cases r <;> simp [Writes]

theorem activate_mem_registerWrites : .activate ∈ registerWrites p cfg a ↔ cfg.pmDynamic = true ∧ a = true := by
  simp [registerWrites, mem_addressWrites, mem_sizingWrites]

/-- A byte whose low six bits are the flags, and whose other two are 0, is their pipe mask. -/
theorem eq_flagMask {m : Byte} {flag : Fin 6 → Bool} (hflag : ∀ q : Fin 6, m.getLsbD q.val = flag q)
    (hupper : m.extractLsb' 6 2 = 0) : m = flagMask flag := by
  have hbits : ∀ m : Byte, m.extractLsb' 6 2 = 0 → m = flagMask fun q => m.getLsbD q.val := by decide
  rw [hbits m hupper, funext hflag]

/-- DYNPD's byte, by its bits (R132). -/
theorem eq_enabledMask_iff : v = [enabledMask cfg] ↔
    ∃ m : Byte, v = [m] ∧ (∀ r : Fin 6, m.getLsbD r.val = (cfg.pipe r).enabled) ∧ m.extractLsb' 6 2 = 0 := by
  rw [enabledMask, pipeMask_eq]
  constructor
  · rintro rfl
    exact ⟨_, rfl, flagMask_bits _⟩
  · rintro ⟨m, rfl, hflag, hupper⟩
    rw [eq_flagMask hflag hupper]

/-! ### Their order (log 16) -/

theorem addressWrites_commandBytes (cfg : Configuration) :
    ((addressWrites cfg).map Call.commandByte?).Sublist ([0x2A, 0x2B, 0x2C, 0x2D, 0x2E, 0x2F].map some) := by
  have one (b : Bool) (c : Call) : ((if b then [c] else []).map Call.commandByte?).Sublist [c.commandByte?] := by
    cases b <;> simp
  have hupper := (List.filter_sublist (l := upperPipes) (p := fun p => (cfg.pipe p).enabled)).map
    fun p => (Call.regWrite (ChipReg.rxAddr p).addr ((cfg.pipe p).addrBytes 1)).commandByte?
  unfold addressWrites
  rw [List.map_append, List.map_append, List.map_map]
  exact ((one _ _).append (one _ _)).append hupper

/-- The command bytes of the sizing writes: RX_PW_P0 to P5, ACTIVATE, FEATURE, DYNPD (R132). -/
def sizingBytes : List (Option Byte) := [0x31, 0x32, 0x33, 0x34, 0x35, 0x36, 0x50, 0x3D, 0x3C].map some

theorem sizingWrites_commandBytes (p : Params) (cfg : Configuration) (a : Bool) :
    ((sizingWrites p cfg a).map Call.commandByte?).Sublist sizingBytes := by
  unfold sizingWrites
  cases cfg.pmDynamic with
  | false => exact List.take_sublist 6 sizingBytes
  | true =>
    cases a with
    | false => exact List.drop_sublist 7 sizingBytes
    | true => exact List.drop_sublist 6 sizingBytes

theorem registerWrites_commandBytes (p : Params) (cfg : Configuration) (a : Bool) :
    ((registerWrites p cfg a).map Call.commandByte?).Sublist
      ([0x25, 0x26, 0x21, 0x22, 0x23, 0x2A, 0x2B, 0x2C, 0x2D, 0x2E, 0x2F, 0x31, 0x32, 0x33, 0x34, 0x35, 0x36, 0x50, 0x3D,
        0x3C].map some) := by
  unfold registerWrites
  rw [List.map_append, List.map_append]
  exact ((List.Sublist.refl _).append (addressWrites_commandBytes cfg)).append (sizingWrites_commandBytes p cfg a)

/-- Settles O19: what is written to each register, and the order of the command bytes part by part. -/
theorem addressAndSizingWrites : Obligations.AddressAndSizingWrites := by
  intro p cfg a q v
  exact ⟨regWrite_mem_registerWrites (.rxAddr q), regWrite_mem_registerWrites (.rxPw q),
    regWrite_mem_registerWrites .feature,
    (regWrite_mem_registerWrites .dynpd).trans (and_congr_right' eq_enabledMask_iff),
    activate_mem_registerWrites, (regWrite_mem_registerWrites .txAddr).mp,
    (regWrite_mem_registerWrites .setupRetr).mp, (regWrite_mem_registerWrites .status).mp,
    registerWrites_commandBytes p cfg a⟩

end Sys2Proof.Machine
end

section
/-! PROOFS. APPLY's list of calls: CONFIG at its end (O22), its length (O23), and that the register writes do not depend on the
block's state (O24). -/

namespace Sys2Proof.Machine

variable {p : Params} {cfg : Configuration} {d a : Bool} {c : Call}

/-! ## CONFIG (R133) -/

/-- The calls before CONFIG: the CE drive and the register writes. -/
theorem applyCalls_dropLast (p : Params) (cfg : Configuration) (d a : Bool) :
    (applyCalls p cfg d a).dropLast = (if d then [.ce .low] else []) ++ registerWrites p cfg a :=
  List.dropLast_concat

theorem applyCalls_getLast? (p : Params) (cfg : Configuration) (d a : Bool) :
    (applyCalls p cfg d a).getLast? = some (.config applyKeep (crcBits cfg.crc)) :=
  List.getLast?_concat

/-- No call before the last is of CONFIG. -/
theorem ne_config_of_mem_dropLast (h : c ∈ (applyCalls p cfg d a).dropLast) :
    (∀ keep set, c ≠ .config keep set) ∧ ∀ v, c ≠ .regWrite 0x00 v := by
  rw [applyCalls_dropLast, List.mem_append, List.mem_ite_nil_right, List.mem_singleton] at h
  obtain ⟨-, rfl⟩ | h := h
  · exact ⟨nofun, nofun⟩
  · refine ⟨?_, fun v hv => regWrite_config_not_mem_registerWrites p cfg a v (hv ▸ h)⟩
    obtain rfl | ⟨q, v, rfl⟩ | ⟨w, -, rfl⟩ := mem_registerWrites h <;> exact nofun

/-- Of the shadow, CONFIG's value keeps what is kept, when nothing of that is set. -/
theorem configValue_and_keep {keep set : Byte} (h : set &&& keep = 0) (shadow : Byte) :
    configValue keep set shadow &&& keep = shadow &&& keep := by
  rw [configValue, BitVec.and_or_distrib_right, h, BitVec.and_assoc, BitVec.and_self]
  exact BitVec.or_zero

/-- No CRC bit is one that APPLY keeps. -/
theorem crcBits_and_keep (crc : BitVec 2) : crcBits crc &&& applyKeep = 0 := by
  revert crc; decide

theorem applyConfig_getLsbD (crc : BitVec 2) (shadow : Byte) (i : Nat) :
    (configValue 0x73 (crcBits crc) shadow).getLsbD i =
      ((shadow.getLsbD i && (0x73 : Byte).getLsbD i) || (crcBits crc).getLsbD i) := by
  rw [configValue, BitVec.getLsbD_or, BitVec.getLsbD_and]

/-- The CRC bits: EN_CRC and CRCO (R133). -/
theorem crcBits_getLsbD (crc : BitVec 2) (h : crc ≠ 3) :
    (crcBits crc).getLsbD 3 = decide (crc ≠ 0) ∧ (crcBits crc).getLsbD 2 = decide (crc = 2) := by
  revert crc; decide

theorem crcBits_getLsbD_seven (crc : BitVec 2) : (crcBits crc).getLsbD 7 = false := by
  revert crc; decide

/-- Settles O22: the list ends with CONFIG's call, and its value bit by bit. -/
theorem configIsWrittenLast : Obligations.ConfigIsWrittenLast := by
  intro p cfg d a shadow
  refine ⟨applyCalls_getLast? p cfg d a, fun c => ne_config_of_mem_dropLast,
    configValue_and_keep (crcBits_and_keep cfg.crc) shadow, ?_, fun hv => ?_⟩
  · rw [applyConfig_getLsbD, crcBits_getLsbD_seven]
    simp
  · obtain ⟨-, -, hcrc, -⟩ := validFields hv
    rw [applyConfig_getLsbD, applyConfig_getLsbD]
    simpa using crcBits_getLsbD cfg.crc hcrc

/-! ## The number of calls (R135) -/

theorem length_ite_singleton {α : Type} (b : Bool) (x : α) : (if b then [x] else []).length = b.toNat := by
  cases b <;> rfl

theorem addressWrites_length_eq (cfg : Configuration) :
    (addressWrites cfg).length =
      (cfg.pipe 0).enabled.toNat + ((cfg.pipe 1).enabled || upperEnabled cfg).toNat + (cfg.pipe 2).enabled.toNat +
        (cfg.pipe 3).enabled.toNat + (cfg.pipe 4).enabled.toNat + (cfg.pipe 5).enabled.toNat := by
  have hupper : (upperPipes.filter fun p => (cfg.pipe p).enabled).length =
      (cfg.pipe 2).enabled.toNat + (cfg.pipe 3).enabled.toNat + (cfg.pipe 4).enabled.toNat +
        (cfg.pipe 5).enabled.toNat := by
    simp only [← List.countP_eq_length_filter, upperPipes, List.countP_cons, List.countP_nil, Bool.toNat, Bool.cond_eq_ite]
    omega
  rw [addressWrites, List.length_append, List.length_append, length_ite_singleton, length_ite_singleton, List.length_map,
    hupper]
  omega

theorem sizingWrites_length_eq (p : Params) (cfg : Configuration) (a : Bool) :
    (sizingWrites p cfg a).length = if cfg.pmDynamic then 2 + a.toNat else 6 := by
  unfold sizingWrites
  cases cfg.pmDynamic <;> cases a <;> rfl

/-- Settles O23, part by part; the bound is `applyCalls_length`. -/
theorem applyStepCount : Obligations.ApplyStepCount := by
  intro p cfg d a
  refine ⟨?_, applyCalls_length p cfg d a⟩
  rw [applyCalls, registerWrites]
  simp only [List.length_append, length_ite_singleton, addressWrites_length_eq, sizingWrites_length_eq, List.length_cons,
    List.length_nil]
  omega

/-! ## Two APPLYs (R137) -/

theorem registerWritesOf_append (xs ys : List Call) :
    registerWritesOf (xs ++ ys) = registerWritesOf xs ++ registerWritesOf ys :=
  List.filter_append xs ys

/-- Sending ACTIVATE or not, the sizing writes are the same. -/
theorem registerWritesOf_sizingWrites (p : Params) (cfg : Configuration) (a : Bool) :
    registerWritesOf (sizingWrites p cfg a) = sizingWrites p cfg false := by
  unfold sizingWrites
  cases cfg.pmDynamic <;> cases a <;> rfl

/-- The register writes of an APPLY, whatever the two choices. -/
theorem registerWritesOf_applyCalls (p : Params) (cfg : Configuration) (d a : Bool) :
    registerWritesOf (applyCalls p cfg d a) = registerWritesOf (applyCalls p cfg false false) := by
  have hce : registerWritesOf (if d then [.ce .low] else []) = [] := by cases d <;> rfl
  simp only [applyCalls, registerWrites, registerWritesOf_append, registerWritesOf_sizingWrites, hce]
  rfl

/-- A read-modify-write of CONFIG done twice is done once. -/
theorem configValue_idempotent (keep set shadow : Byte) :
    configValue keep set (configValue keep set shadow) = configValue keep set shadow := by
  have hbit : ∀ x k b : Bool, ((x && k || b) && k || b) = (x && k || b) := by decide
  ext i
  simp [configValue, hbit]

/-- Settles O24. -/
theorem applyIsIdempotent : Obligations.ApplyIsIdempotent :=
  fun p cfg ce₁ ce₂ act₁ act₂ shadow =>
    ⟨(registerWritesOf_applyCalls p cfg ce₁ act₁).trans (registerWritesOf_applyCalls p cfg ce₂ act₂).symm,
      configValue_idempotent 0x73 (crcBits cfg.crc) shadow⟩

end Sys2Proof.Machine
end

section
/-! PROOFS. Single steps of APPLY: what is refused (O17), the first call (O25), and the last (O26). -/

namespace Sys2Proof.Machine

variable {s t : State} {cfg : Configuration} {c : Call}

/-! ## The checks (R121, R122) -/

theorem execApply_refused {e : ReqError} (hk : s.seq.k = 0) (h : s.applyRefusal cfg = some e) :
    execApply cfg s = .next (s.raise e) := by
  rw [execApply, if_pos hk, h]

theorem execApply_accepted (hk : s.seq.k = 0) (h : s.applyRefusal cfg = none) :
    execApply cfg s = (s.applyChoices cfg).applyCall cfg := by
  rw [execApply, if_pos hk, h]

theorem execApply_later (hk : s.seq.k ≠ 0) : execApply cfg s = s.applyCall cfg := if_neg hk

theorem applyRefusal_invalid {reason : ConfigReason} (h : validate cfg = some reason) (s : State) :
    s.applyRefusal cfg = some (.configError reason) := by
  rw [State.applyRefusal, h]

/-- A Configuration that passes `Validate` is refused or not by the mode alone. -/
theorem applyRefusal_valid (h : validate cfg = none) (s : State) :
    s.applyRefusal cfg = if s.mode.isIn 0b0011 then none else some (.invalidMode 0b0011 s.mode) := by
  rw [State.applyRefusal, h]

theorem applyRefusal_idle (h : validate cfg = none) (hm : s.mode = .powerDown ∨ s.mode = .standby) :
    s.applyRefusal cfg = none := by
  rw [applyRefusal_valid h, if_pos ((mode_isIn_idle _).mpr hm)]

/-- Settles O17: the two refusals, neither of which makes a call. -/
theorem applyRefusals : Obligations.ApplyRefusals := by
  intro cfg s hk
  refine ⟨fun reason hv => ?_, fun hv hm => ?_⟩
  · exact ⟨_, execApply_refused hk (applyRefusal_invalid hv s), ⟨rfl, rfl⟩, rfl, ⟨rfl, rfl, rfl, rfl⟩, rfl, rfl⟩
  · have hactive : ¬s.mode.isIn 0b0011 = true := by rw [mode_isIn_idle]; obtain h | h := hm <;> simp [h]
    have hr : s.applyRefusal cfg = some (.invalidMode 0b0011 s.mode) := by rw [applyRefusal_valid hv, if_neg hactive]
    exact ⟨_, execApply_refused hk hr, ⟨rfl, rfl⟩, rfl, ⟨rfl, rfl, rfl, rfl⟩, rfl, rfl, rfl⟩

/-! ## The first call (R124) -/

/-- A CE drive that returned. -/
theorem State.setCe_ok {l : Level} (f : State → State) (h : s.pinReply = none) :
    s.setCe l f = f ((s.pinDone (.ce l)).setCeShadow l.shadow) := by
  rw [State.setCe, h]

/-- A CE drive that failed. -/
theorem State.setCe_error {l : Level} {e : GpioError} (f : State → State) (h : s.pinReply = some e) :
    s.setCe l f = s.pinFailed l e := by
  rw [State.setCe, h]
  rfl

/-- The first call: the CE drive, or the write of RF_CH (R124, R125). -/
theorem applyCalls_head (p : Params) (cfg : Configuration) (d a : Bool) :
    (applyCalls p cfg d a)[0]? =
      some (if d then .ce .low else .regWrite ChipReg.rfCh.addr [cfg.channel.setWidth 8]) := by
  cases d <;> rfl

/-- The first call is not the last: five registers are written before CONFIG whatever the Configuration. -/
theorem applyCalls_length_ne_one (p : Params) (cfg : Configuration) (d a : Bool) : 1 ≠ (applyCalls p cfg d a).length := by
  simp only [applyCalls, registerWrites, List.length_append, List.length_cons]
  omega

/-- A call of an APPLY that is not its last: when it succeeds, the request goes on. -/
theorem State.applyCall_of_not_last
    (hc : (applyCalls s.params cfg s.seq.ceDriven s.seq.activating)[s.seq.k.toNat]? = some c)
    (hk : s.seq.k.toNat + 1 ≠ (applyCalls s.params cfg s.seq.ceDriven s.seq.activating).length) :
    s.applyCall cfg = .next (s.perform c State.advance) := by
  rw [State.applyCall, State.runCalls_of_getElem _ hc]
  simp only [if_neg hk]

/-- The first step of an accepted APPLY (R124). -/
theorem exec_apply_first (hk : s.seq.k = 0) (hv : validate cfg = none) (hm : s.mode = .powerDown ∨ s.mode = .standby) :
    exec (.apply cfg) s = .next ((s.applyChoices cfg).perform
      (if s.ceShadow != .low then .ce .low else .regWrite ChipReg.rfCh.addr [cfg.channel.setWidth 8]) State.advance) := by
  change execApply cfg s = _
  have hk0 : (s.applyChoices cfg).seq.k.toNat = 0 := congrArg BitVec.toNat hk
  rw [execApply_accepted hk (applyRefusal_idle hv hm)]
  refine State.applyCall_of_not_last ?_ ?_
  · rw [hk0, applyCalls_head]
    rfl
  · rw [hk0]
    exact applyCalls_length_ne_one _ _ _ _

/-- Settles O25: the first call is the CE drive, with its two answers, or the write of RF_CH. -/
theorem applyFirstCall : Obligations.ApplyFirstCall := by
  intro cfg s hk hv hm
  have hexec := exec_apply_first hk hv hm
  refine ⟨fun hce hpin => ?_, fun e hce hpin => ?_, fun rx hce hreply => ?_⟩
  · rw [if_pos (by simpa using hce)] at hexec
    refine ⟨_, hexec.trans (congrArg Host.Outcome.next (State.setCe_ok _ hpin)), rfl, ?_, rfl, rfl, rfl, rfl, rfl⟩
    simp [State.applyChoices, hk]
  · rw [if_pos (by simpa using hce)] at hexec
    exact ⟨_, hexec.trans (congrArg Host.Outcome.next (State.setCe_error _ hpin)), ⟨rfl, rfl⟩, rfl, rfl, rfl, rfl, rfl, rfl,
      rfl⟩
  · rw [if_neg (by simpa using hce)] at hexec
    refine ⟨_, hexec.trans (congrArg Host.Outcome.next (State.regWrite_ok (bs := [_]) _ hreply)), rfl, ?_, rfl, rfl, rfl,
      rfl, rfl⟩
    simp [State.applyChoices, hk]

/-! ## The last call (R133, R134) -/

/-- The last call of an APPLY is CONFIG's, and the completion follows it. -/
theorem State.applyCall_last
    (hk : s.seq.k.toNat + 1 = (applyCalls s.params cfg s.seq.ceDriven s.seq.activating).length) :
    s.applyCall cfg =
      .next (s.perform (.config applyKeep (crcBits cfg.crc)) fun u => (State.applyDone cfg u).succeed id) := by
  have hc := applyCalls_getLast? s.params cfg s.seq.ceDriven s.seq.activating
  rw [List.getLast?_eq_getElem?, ← hk, Nat.add_sub_cancel] at hc
  rw [State.applyCall, State.runCalls_of_getElem _ hc]
  simp only [if_pos hk]

/-- No call before the last moves `config_shadow`. -/
theorem configAfter_of_mem_dropLast {p : Params} {d a : Bool} (h : c ∈ (applyCalls p cfg d a).dropLast) (shadow : Byte) :
    c.configAfter shadow = shadow := by
  obtain ⟨hne, -⟩ := ne_config_of_mem_dropLast h
  cases c with
  | config keep set => exact absurd rfl (hne keep set)
  | _ => rfl

/-- The registers that APPLY's last call writes are as they were. -/
abbrev ConfigurationKept (s t : State) : Prop :=
  t.configShadow = s.configShadow ∧ t.payloadMode = s.payloadMode ∧ t.configured = s.configured

/-- A call before the last leaves them as they were. -/
theorem State.applyCall_keeps_configuration
    (hk : s.seq.k.toNat + 1 ≠ (applyCalls s.params cfg s.seq.ceDriven s.seq.activating).length)
    (h : s.applyCall cfg = .next t) : ConfigurationKept s t := by
  obtain ⟨c, hc, ⟨tx, e, rfl⟩ | ⟨l, e, rfl⟩ | ⟨rx, rfl⟩⟩ := State.runCalls_cases h
  · exact ⟨rfl, rfl, rfl⟩
  · exact ⟨rfl, rfl, rfl⟩
  · have hmem : c ∈ (applyCalls s.params cfg s.seq.ceDriven s.seq.activating).dropLast := by
      obtain ⟨hlt, -⟩ := List.getElem?_eq_some_iff.mp hc
      exact List.mem_of_getElem? (i := s.seq.k.toNat) (by rw [List.getElem?_dropLast, if_pos (by omega), hc])
    rw [if_neg hk]
    exact ⟨by simp [configAfter_of_mem_dropLast hmem], by simp, by simp⟩

/-- Settles O26: a call before the last, the last call when the bus fails, and the last call when it answers. -/
theorem applyLastCallCompletes : Obligations.ApplyLastCallCompletes := by
  refine ⟨fun cfg s t h hcase => ?_, fun cfg s rx hk hlast hreply => ?_⟩
  · obtain ⟨-, e, rfl⟩ | ⟨hk, -, h⟩ | ⟨hk, h⟩ := execApply_cases h
    · exact ⟨rfl, rfl, rfl⟩
    · refine State.applyCall_keeps_configuration (s := s.applyChoices cfg) ?_ h
      have hk0 : (s.applyChoices cfg).seq.k.toNat = 0 := congrArg BitVec.toNat hk
      rw [hk0]
      exact applyCalls_length_ne_one _ _ _ _
    · by_cases hlast : s.seq.k.toNat + 1 = (applyCalls s.params cfg s.seq.ceDriven s.seq.activating).length
      · obtain ⟨e, hreply⟩ := (hcase.resolve_left hk).resolve_left (not_not.mpr hlast)
        rw [State.applyCall_last hlast, State.perform, State.regWrite_error (bs := [_]) _ hreply] at h
        cases h
        exact ⟨rfl, rfl, rfl⟩
      · exact State.applyCall_keeps_configuration hlast h
  · have hexec : exec (.apply cfg) s = _ := (execApply_later hk).trans (State.applyCall_last hlast)
    rw [State.perform, State.regWrite_ok (bs := [_]) _ hreply] at hexec
    exact ⟨_, hexec, ⟨rfl, rfl⟩, rfl, rfl, rfl, ⟨rfl, rfl, rfl, rfl⟩, rfl, rfl, rfl, rfl, rfl, rfl, rfl⟩

end Sys2Proof.Machine
end

section
/-! PROOFS. A list of calls made one after the other: how it ends, and what it leaves in the registers and in the trace. -/

namespace Sys2Proof.Machine

/-- From `s` to `u` the calls of a list were made, and each succeeded. -/
inductive Made : List Call → State → State → Prop
  | nil (s : State) : Made [] s s
  | cons {c cs s u} (rx : List Byte) (h : Made cs (s.called c rx) u) : Made (c :: cs) s u

/-- How the calls of a list end: all succeed, and the completion follows; or one fails, a CE drive at the pin, another at the
bus, and it ends the request (R97, R162, R219). -/
inductive CallsEnd (done : State → State) (s : State) : List Call → State → Prop
  | completed {calls u} (h : Made calls s u) : CallsEnd done s calls ((done u).succeed id)
  | busFailed {pre c post u} (h : Made pre s u) (hc : ∀ l, c ≠ .ce l) (tx : List Byte) (e : BusError) :
    CallsEnd done s (pre ++ c :: post) (u.busFailed tx e)
  | pinFailed {pre l post u} (h : Made pre s u) (e : GpioError) :
    CallsEnd done s (pre ++ .ce l :: post) (u.pinFailed l e)

variable {s t u : State} {c : Call} {calls : List Call} {done : State → State}

/-! ## How they end -/

/-- A call other than a CE drive succeeds, or the bus fails. -/
theorem State.perform_bus_cases (hc : ∀ l, c ≠ .ce l) (s : State) (f : State → State) :
    (∃ tx e, s.perform c f = s.busFailed tx e) ∨ ∃ rx, s.perform c f = f (s.called c rx) := by
  cases c with
  | ce l => exact absurd rfl (hc l)
  | wait us => exact .inr ⟨[], rfl⟩
  | regWrite _ _ | activate | config _ _ =>
    simp only [State.perform, State.regWrite, State.xfer]
    split
    · exact .inl ⟨_, _, rfl⟩
    · exact .inr ⟨_, rfl⟩

theorem CallsEnd.cons {rx : List Byte} (h : CallsEnd done (s.called c rx) calls t) : CallsEnd done s (c :: calls) t := by
  cases h with
  | completed h => exact .completed (.cons rx h)
  | busFailed h hc tx e => exact .busFailed (pre := c :: _) (.cons rx h) hc tx e
  | pinFailed h e => exact .pinFailed (pre := c :: _) (.cons rx h) e

/-- Everything a list of calls can come to. -/
theorem State.performAll_end (calls : List Call) (done : State → State) (s : State) :
    CallsEnd done s calls (State.performAll calls done s) := by
  induction calls generalizing s with
  | nil => exact .completed (.nil s)
  | cons c cs ih =>
    rw [State.performAll]
    by_cases hc : ∃ l, c = .ce l
    · obtain ⟨l, rfl⟩ := hc
      obtain ⟨e, -, h⟩ | ⟨-, h⟩ := s.setCe_cases l (State.performAll cs done) <;> rw [State.perform, h]
      · exact .pinFailed (pre := []) (.nil s) e
      · exact (ih (s.called (.ce l) [])).cons
    · have hc : ∀ l, c ≠ .ce l := not_exists.mp hc
      obtain ⟨tx, e, h⟩ | ⟨rx, h⟩ := State.perform_bus_cases hc s (State.performAll cs done) <;> rw [h]
      · exact .busFailed (pre := []) (.nil s) hc tx e
      · exact (ih _).cons

/-- With success every call was made. -/
theorem CallsEnd.made_of_ok (h : CallsEnd done s calls t) (herr : t.res.err = 0) :
    ∃ u, Made calls s u ∧ t = (done u).succeed id := by
  cases h with
  | completed h => exact ⟨_, h, rfl⟩
  | busFailed _ _ _ _ | pinFailed _ _ => cases herr

/-! ## What they leave -/

/-- No call writes the mode, what a completion writes, or a parameter. -/
theorem Made.keeps (h : Made calls s u) :
    u.mode = s.mode ∧ u.payloadMode = s.payloadMode ∧ u.configured = s.configured ∧ u.params = s.params := by
  induction h with
  | nil s => exact ⟨rfl, rfl, rfl, rfl⟩
  | cons rx _ ih => simpa using ih

theorem Made.configShadow (h : Made calls s u) : u.configShadow = calls.foldl Call.configAfter s.configShadow := by
  induction h with
  | nil s => rfl
  | cons rx _ ih => simpa using ih

/-- Calls that do not drive CE High leave it Low, when it was Low or the first call drives it Low. -/
theorem Made.ceShadow_low (h : Made calls s u) (hhigh : .ce .high ∉ calls)
    (hlow : s.ceShadow = .low ∨ ∃ cs, calls = .ce .low :: cs) : u.ceShadow = .low := by
  induction h with
  | nil s => exact hlow.resolve_right nofun
  | cons rx _ ih =>
    rw [List.mem_cons, not_or] at hhigh
    obtain ⟨hc, hcs⟩ := hhigh
    refine ih hcs (.inl (State.called_ceShadow_low rx (Ne.symm hc) (hlow.imp_right ?_)))
    rintro ⟨cs, h⟩
    exact (List.cons.inj h).1

theorem State.called_featuresActive (c : Call) (rx : List Byte) (s : State) :
    (s.called c rx).featuresActive = if c = .activate then !s.featuresActive else s.featuresActive := by
  cases c <;> rfl

/-- The features are believed active when they were or an ACTIVATE was sent, if it is sent once and only when they were not. -/
theorem Made.featuresActive_iff (h : Made calls s u) (hnodup : calls.Nodup)
    (hinactive : .activate ∈ calls → s.featuresActive = false) :
    u.featuresActive = true ↔ s.featuresActive = true ∨ .activate ∈ calls := by
  induction h with
  | nil s => simp
  | @cons c cs s u rx _ ih =>
    obtain ⟨hc, hcs⟩ := List.nodup_cons.mp hnodup
    have hcalled := s.called_featuresActive c rx
    by_cases hact : c = .activate
    · subst hact
      rw [if_pos rfl, hinactive List.mem_cons_self] at hcalled
      rw [ih hcs fun h => absurd h hc, hcalled]
      simp
    · rw [if_neg hact] at hcalled
      rw [ih hcs fun h => hcalled.trans (hinactive (List.mem_cons_of_mem c h)), hcalled, List.mem_cons]
      simp [Ne.symm hact]

/-! ## What they leave in the trace -/

/-- Of the calls that succeed, only ACTIVATE sends its two bytes. -/
theorem State.called_activate_event (c : Call) (rx : List Byte) (s : State) :
    ∃ ev, (s.called c rx).env.events = ev :: s.env.events ∧ ((∃ r, Event.xfer [0x50, 0x73] r = ev) ↔ .activate = c) := by
  have hwrite (a : BitVec 5) (v : List Byte) : ¬∃ r, Event.xfer [0x50, 0x73] r = .xfer (cmdWRegister a :: v) rx :=
    fun ⟨_, h⟩ => cmdWRegister_ne_activate a (List.cons.inj (Event.xfer.inj h).1).1.symm
  cases c with
  | activate => exact ⟨_, rfl, iff_of_true ⟨rx, rfl⟩ rfl⟩
  | regWrite _ _ | config _ _ => exact ⟨_, rfl, iff_of_false (hwrite _ _) nofun⟩
  | ce _ | wait _ => exact ⟨_, rfl, iff_of_false nofun nofun⟩

theorem Made.activate_event_iff (h : Made calls s u) :
    ∃ evs, u.env.events = evs ++ s.env.events ∧ ((∃ rx, Event.xfer [0x50, 0x73] rx ∈ evs) ↔ .activate ∈ calls) := by
  induction h with
  | nil s => exact ⟨[], rfl, by simp⟩
  | @cons c cs s u rx _ ih =>
    obtain ⟨evs, hevs, hmem⟩ := ih
    obtain ⟨ev, hev, hact⟩ := s.called_activate_event c rx
    refine ⟨evs ++ [ev], by simp [hevs, hev], ?_⟩
    rw [List.mem_cons, or_comm]
    simp only [List.mem_append, List.mem_singleton, exists_or, hmem, hact]

theorem State.called_acts (c : Call) (rx : List Byte) (s : State) :
    acts (s.called c rx).env.events = c.act s.configShadow :: acts s.env.events := by
  cases c <;> rfl

/-- The calls stand in the trace in their order; only the last of them may move `config_shadow`. -/
theorem Made.acts_eq (h : Made calls s u) (hshadow : ∀ c ∈ calls.dropLast, ∀ shadow, c.configAfter shadow = shadow) :
    acts u.env.events = (calls.map (Call.act s.configShadow)).reverse ++ acts s.env.events := by
  induction h with
  | nil s => rfl
  | @cons c cs s u rx h ih =>
    have hhead := s.called_acts c rx
    cases cs with
    | nil => cases h; exact hhead
    | cons c' cs =>
      rw [List.dropLast_cons_cons, List.forall_mem_cons] at hshadow
      obtain ⟨hc, hcs⟩ := hshadow
      rw [ih hcs, State.called_configShadow, hc, hhead]
      simp

end Sys2Proof.Machine
end

section
/-! PROOFS. The whole run of an accepted APPLY: what it leaves in the registers (O27), and the calls it makes (O28). -/

namespace Sys2Proof.Machine

variable {s t u : State} {c : Call} {cfg : Configuration} {p : Params} {d a : Bool} {pre post : List Call}

/-! ## The calls of an accepted APPLY -/

/-- The calls of an APPLY that begins at `s`, with the choices of R124 and R132 made there. -/
def State.acceptedCalls (cfg : Configuration) (s : State) : List Call :=
  applyCalls s.params cfg (s.ceShadow != .low) (cfg.pmDynamic && s.params.activateRequired && !s.featuresActive)

/-- An accepted APPLY run to its end is its calls, one after the other. -/
theorem runRequest_apply_accepted (hb : s.seq.busy = true) (hk : s.seq.k = 0) (hv : validate cfg = none)
    (hm : s.mode = .powerDown ∨ s.mode = .standby) :
    runRequest (.apply cfg) 19 s =
      .next (State.performAll (s.acceptedCalls cfg) (State.applyDone cfg) (s.applyChoices cfg)) := by
  rw [runRequest_succ]
  change proceed _ 18 (execApply cfg s) = _
  rw [execApply_accepted hk (applyRefusal_idle hv hm)]
  exact (apply_stepsThrough cfg (s.applyChoices cfg)).proceed_all (applyCalls_ne_nil _ _ _ _) (applyCalls_length ..) hk hb

/-- No call of an APPLY is made twice: their command bytes differ. -/
theorem applyCalls_nodup (p : Params) (cfg : Configuration) (d a : Bool) : (applyCalls p cfg d a).Nodup := by
  have hce : ((if d then [Call.ce .low] else []).map Call.commandByte?).Sublist [none] := by
    cases d with
    | false => exact List.nil_sublist _
    | true => exact List.Sublist.refl _
  have hbytes := (hce.append (registerWrites_commandBytes p cfg a)).append (List.Sublist.refl [some 0x20])
  refine List.Nodup.of_map Call.commandByte? (List.Nodup.sublist ?_ (List.Nodup.sublist hbytes (by decide)))
  rw [applyCalls, List.map_append, List.map_append]
  exact List.Sublist.refl _

theorem activate_mem_acceptedCalls :
    .activate ∈ s.acceptedCalls cfg ↔
      cfg.pmDynamic = true ∧ s.params.activateRequired = true ∧ s.featuresActive = false := by
  simp +contextual [State.acceptedCalls, applyCalls, activate_mem_registerWrites, and_assoc]

theorem ce_not_mem_registerWrites (l : Level) : .ce l ∉ registerWrites p cfg a := fun h => by
  obtain h | ⟨q, v, h⟩ | ⟨w, -, h⟩ := mem_registerWrites h <;> cases h

/-- CE is driven only when it is not known to be Low (R124). -/
theorem ceShadow_ne_low_of_mem {l : Level} (h : .ce l ∈ s.acceptedCalls cfg) : s.ceShadow ≠ .low := by
  obtain ⟨hce, -⟩ : s.ceShadow ≠ .low ∧ l = .low := by
    simpa [State.acceptedCalls, applyCalls, ce_not_mem_registerWrites] using h
  exact hce

/-- CE is Low, or the first call drives it Low (R124). -/
theorem acceptedCalls_ce (cfg : Configuration) (s : State) :
    s.ceShadow = .low ∨ ∃ cs, s.acceptedCalls cfg = .ce .low :: cs := by
  by_cases h : s.ceShadow = .low
  · exact .inl h
  · exact .inr ⟨_, by rw [State.acceptedCalls, applyCalls, if_pos (by simpa using h)]; rfl⟩

theorem applyCalls_configAfter (p : Params) (cfg : Configuration) (d a : Bool) (shadow : Byte) :
    (applyCalls p cfg d a).foldl Call.configAfter shadow = configValue applyKeep (crcBits cfg.crc) shadow := by
  cases d <;> simp [applyCalls, registerWrites_configAfter, Call.configAfter]

/-- The calls of an APPLY up to any of them, and ACTIVATE among them or not. -/
theorem acceptedCalls_featuresActive_iff (hsub : pre.Sublist (s.acceptedCalls cfg)) (h : Made pre (s.applyChoices cfg) u) :
    u.featuresActive = true ↔ s.featuresActive = true ∨ .activate ∈ pre := by
  refine h.featuresActive_iff (hsub.nodup (applyCalls_nodup ..)) fun hmem => ?_
  obtain ⟨-, -, hinactive⟩ := activate_mem_acceptedCalls.mp (hsub.subset hmem)
  exact hinactive

/-! ## A call that fails -/

/-- The calls before one that fails, whichever it is, leave everything as it was but CE and the features. -/
theorem acceptedCalls_before_failure (hcalls : s.acceptedCalls cfg = pre ++ c :: post) (h : Made pre (s.applyChoices cfg) u) :
    ConfigurationKept s u ∧ ∃ evs, u.env.events = evs ++ s.env.events ∧
      (u.featuresActive = true ↔ s.featuresActive = true ∨ ∃ rx, Event.xfer [0x50, 0x73] rx ∈ evs) := by
  obtain ⟨-, hpm, hcf, -⟩ := h.keeps
  obtain ⟨evs, hevs, hact⟩ := h.activate_event_iff
  have hsub : pre.Sublist (s.acceptedCalls cfg) := hcalls ▸ List.sublist_append_left ..
  have hbefore : pre ⊆ (s.acceptedCalls cfg).dropLast := by
    rw [hcalls, List.dropLast_append_of_ne_nil (List.cons_ne_nil _ _)]
    exact List.subset_append_left ..
  have hconfig : u.configShadow = s.configShadow := by
    rw [h.configShadow, List.foldl_ext _ (fun x _ => x) _ fun _ c hc => configAfter_of_mem_dropLast (hbefore hc) _,
      List.foldl_fixed]
    rfl
  exact ⟨⟨hconfig, hpm, hcf⟩, evs, hevs, (acceptedCalls_featuresActive_iff hsub h).trans (or_congr_right hact.symm)⟩

/-- The calls before another one than a CE drive leave CE Low. -/
theorem acceptedCalls_before_failure_ceLow (hcalls : s.acceptedCalls cfg = pre ++ c :: post) (hc : ∀ l, c ≠ .ce l)
    (h : Made pre (s.applyChoices cfg) u) : u.ceShadow = .low := by
  refine h.ceShadow_low (fun hmem => ?_) ((acceptedCalls_ce cfg s).imp_right ?_)
  · exact ceHigh_not_mem_applyCalls _ _ _ _ (hcalls.symm ▸ List.mem_append_left _ hmem)
  · rintro ⟨cs, hcs⟩
    cases pre with
    | nil => exact absurd (List.cons.inj (hcalls.symm.trans hcs)).1 (hc _)
    | cons c' pre => exact ⟨pre, by rw [(List.cons.inj (hcalls.symm.trans hcs)).1]⟩

/-! ## The whole run -/

/-- Settles O27, by how the calls end. -/
theorem applyWholeEffect : Obligations.ApplyWholeEffect := by
  intro cfg s hb hk hv hm
  refine ⟨_, runRequest_apply_accepted hb hk hv hm, State.performAll_ended .., ?_⟩
  have hend := State.performAll_end (s.acceptedCalls cfg) (State.applyDone cfg) (s.applyChoices cfg)
  generalize State.performAll (s.acceptedCalls cfg) (State.applyDone cfg) (s.applyChoices cfg) = t at hend ⊢
  generalize hcalls : s.acceptedCalls cfg = calls at hend
  cases hend with
  | @completed _ u h =>
    subst hcalls
    obtain ⟨hmode, -, -, hparams⟩ := h.keeps
    have hconfig := h.configShadow.trans (applyCalls_configAfter ..)
    have hce := h.ceShadow_low (ceHigh_not_mem_applyCalls _ _ _ _) (acceptedCalls_ce cfg s)
    have hfeat : u.featuresActive = (s.featuresActive || (cfg.pmDynamic && s.params.activateRequired)) := by
      rw [Bool.eq_iff_iff, acceptedCalls_featuresActive_iff (.refl _) h, activate_mem_acceptedCalls]
      cases s.featuresActive <;> simp
    exact ⟨hmode, hparams, fun _ => ⟨hconfig, rfl, rfl, hce, hfeat⟩, fun herr => absurd rfl herr⟩
  | busFailed h hc tx e =>
    obtain ⟨hmode, -, -, hparams⟩ := h.keeps
    obtain ⟨⟨hconfig, hpm, hcf⟩, evs, hevs, hfeat⟩ := acceptedCalls_before_failure hcalls h
    have hce := acceptedCalls_before_failure_ceLow hcalls hc h
    refine ⟨hmode, hparams, nofun, fun _ => ⟨hconfig, hcf, hpm, .inl ⟨rfl, hce⟩, .xferError tx e :: evs, ?_, ?_⟩⟩
    · exact congrArg _ hevs
    · exact hfeat.trans (by simp)
  | @pinFailed pre l post u h e =>
    obtain ⟨hmode, -, -, hparams⟩ := h.keeps
    obtain ⟨⟨hconfig, hpm, hcf⟩, evs, hevs, hfeat⟩ := acceptedCalls_before_failure hcalls h
    have hmem : .ce l ∈ s.acceptedCalls cfg := by simp [hcalls]
    refine ⟨hmode, hparams, nofun, fun _ => ⟨hconfig, hcf, hpm, .inr ⟨rfl, ceShadow_ne_low_of_mem hmem, rfl⟩,
      .ceError l e :: evs, ?_, ?_⟩⟩
    · exact congrArg _ hevs
    · exact hfeat.trans (by simp)

/-- Settles O28: a run that ends with success has made each of its calls. -/
theorem applyEmitsItsCallsInOrder : Obligations.ApplyEmitsItsCallsInOrder := by
  intro cfg s t hb hk hv hm ht herr
  cases ht.symm.trans (runRequest_apply_accepted hb hk hv hm)
  obtain ⟨u, hmade, hu⟩ := (State.performAll_end ..).made_of_ok herr
  rw [hu]
  exact hmade.acts_eq fun c => configAfter_of_mem_dropLast

end Sys2Proof.Machine
end

section
/-! PROOFS. TRANSITION: which edges are legal (O30), the nine edges call by call (O31-O36), and what every step of a
transition keeps (O37). -/

namespace Sys2Proof.Machine

variable {s t : State} {i : Instr} {target : Mode} {c c' : Call} {calls pre post : List Call} {f : State → State}
  {keep set v : Byte} {l : Level} {rx : List Byte} {n : BitVec 5}

/-! ## Legal edges (R150, R160) -/

/-- The nine edges of R151-R159, each as its two modes. -/
def legalEdges : List (Mode × Mode) :=
  [(.powerDown, .powerDown), (.powerDown, .standby), (.standby, .powerDown), (.standby, .transmit), (.standby, .receive),
    (.transmit, .powerDown), (.transmit, .standby), (.receive, .powerDown), (.receive, .standby)]

theorem edgeCalls_isSome_iff (p : Params) (m target : Mode) :
    (edgeCalls p m target).isSome = true ↔ (m, target) ∈ legalEdges := by
  cases m <;> cases target <;> simp [edgeCalls, legalEdges]

theorem exec_of_mem_transitionTargets (hi : (i, target) ∈ transitionTargets) (s : State) :
    exec i s = s.transition target := by
  simp only [transitionTargets, List.mem_cons, Prod.mk.injEq, List.not_mem_nil, or_false] at hi
  obtain ⟨rfl, rfl⟩ | ⟨rfl, rfl⟩ | ⟨rfl, rfl⟩ | ⟨rfl, rfl⟩ := hi <;> rfl

theorem State.transition_illegal (hc : s.configured = true) (h : edgeCalls s.params s.mode target = none) :
    s.transition target = .next (s.raise (.invalidTransition s.mode target)) := by
  rw [State.transition, if_pos hc, h]

theorem State.transition_legal (hc : s.configured = true) (h : edgeCalls s.params s.mode target = some calls) :
    s.transition target = s.runCalls calls (State.setMode target) := by
  rw [State.transition, if_pos hc, h]

/-- Settles O30: an illegal edge is refused before any call. -/
theorem legalEdgesAreExactlyNine : Obligations.LegalEdgesAreExactlyNine := by
  intro i target s hc hi
  refine ⟨edgeCalls_isSome_iff s.params s.mode target, fun hedge => ?_⟩
  exact ⟨_, (exec_of_mem_transitionTargets hi s).trans (State.transition_illegal hc hedge), ⟨rfl, rfl⟩, rfl,
    ⟨rfl, rfl, rfl, rfl⟩, rfl, rfl, rfl⟩

/-! ## The bits a transition keeps (R162) -/

/-- A call that writes at most CONFIG, and of its bits at most PWR_UP and PRIM_RX. -/
def Call.writesOnlyModeBits : Call → Prop
  | .config keep set => keep &&& 0xFC = 0xFC ∧ set &&& 0xFC = 0
  | .ce _ | .wait _ => True
  | .regWrite _ _ | .activate => False

theorem edgeCalls_writesOnlyModeBits {p : Params} {m : Mode} (h : edgeCalls p m target = some calls) :
    ∀ c ∈ calls, c.writesOnlyModeBits := by
  cases m <;> cases target <;> cases h <;> simp [Call.writesOnlyModeBits, cfgPwrUp, cfgPrimRx]

theorem configValue_and_mask {mask : Byte} (hkeep : keep &&& mask = mask) (hset : set &&& mask = 0) (shadow : Byte) :
    configValue keep set shadow &&& mask = shadow &&& mask := by
  rw [configValue, BitVec.and_or_distrib_right, hset, BitVec.and_assoc, hkeep]
  exact BitVec.or_zero

/-- What a successful call of an edge keeps. -/
theorem Call.writesOnlyModeBits.keeps (h : c.writesOnlyModeBits) (rx : List Byte) (s : State) :
    (s.called c rx).configShadow &&& 0xFC = s.configShadow &&& 0xFC ∧ (s.called c rx).featuresActive = s.featuresActive := by
  cases c with
  | config keep set =>
    obtain ⟨hkeep, hset⟩ := h
    exact ⟨configValue_and_mask hkeep hset _, rfl⟩
  | ce l | wait us => exact ⟨rfl, rfl⟩
  | regWrite a v | activate => exact h.elim

/-- Settles O37: a step keeps them whether the edge is refused, its call fails, or its call succeeds; only the success of an
edge's last call writes the mode, and it ends the request without an error. -/
theorem transitionKeepsOtherBits : Obligations.TransitionKeepsOtherBits := by
  intro i s t hi h
  obtain ⟨⟨i, target⟩, hmem, rfl⟩ := List.mem_map.mp (show i ∈ transitionTargets.map Prod.fst from hi)
  rw [exec_of_mem_transitionTargets hmem] at h
  obtain ⟨e, rfl⟩ | ⟨calls, -, hedge, h⟩ := State.transition_cases h
  · exact ⟨rfl, rfl, rfl, rfl, fun _ _ => rfl⟩
  · obtain ⟨c, hc, ⟨tx, e, rfl⟩ | ⟨l, e, rfl⟩ | ⟨rx, rfl⟩⟩ := State.runCalls_cases h
    · exact ⟨rfl, rfl, rfl, rfl, fun _ _ => rfl⟩
    · exact ⟨rfl, rfl, rfl, rfl, fun _ _ => rfl⟩
    · obtain ⟨hconfig, hfeat⟩ := (edgeCalls_writesOnlyModeBits hedge c (List.mem_of_getElem? hc)).keeps rx s
      split
      · exact ⟨hconfig, by simp, by simp, hfeat, fun _ hgoing => by simp at hgoing⟩
      · exact ⟨hconfig, by simp, by simp, hfeat, fun _ _ => by simp⟩

/-! ## One call of an edge: it goes on, it ends with success, or it ends with the call's error -/

/-- A call that is not an edge's last. -/
theorem State.transition_more (hc : s.configured = true)
    (hedge : edgeCalls s.params s.mode target = some (pre ++ c :: c' :: post)) (hk : s.seq.k.toNat = pre.length) :
    s.transition target = .next (s.perform c State.advance) := by
  rw [State.transition_legal hc hedge, State.runCalls_of_getElem (c := c) _ (by simp [hk])]
  simp [hk]

/-- What follows an edge's last call: the mode is written, as the last action, and the request ends (R162). -/
abbrev State.finishEdge (target : Mode) (s : State) : State := (s.setMode target).succeed id

/-- An edge's last call, after which the mode is written. -/
theorem State.transition_last (hc : s.configured = true)
    (hedge : edgeCalls s.params s.mode target = some (pre ++ [c])) (hk : s.seq.k.toNat = pre.length) :
    s.transition target = .next (s.perform c (State.finishEdge target)) := by
  rw [State.transition_legal hc hedge, State.runCalls_of_getElem (c := c) _ (by simp [hk])]
  simp [hk]

/-- R151, R153: a read-modify-write that sets bits. -/
theorem configValue_set (bits shadow : Byte) : configValue 0xFF bits shadow = shadow ||| bits :=
  congrArg (· ||| bits) BitVec.and_allOnes

/-- R152, R156: a read-modify-write that clears bits. -/
theorem configValue_clear (keep shadow : Byte) : configValue keep 0 shadow = shadow &&& keep := BitVec.or_zero

/-! ### CONFIG -/

theorem configCall_goesOn (hexec : s.transition target = .next (s.perform (.config keep set) State.advance))
    (hk : s.seq.k = n) (hv : configValue keep set s.configShadow = v) (h : s.spiReply 2 = .ok rx) :
    ∃ t, s.transition target = .next t ∧ t.seq.busy = s.seq.busy ∧ t.seq.k = n + 1 ∧
      t.regs = (s.setConfigShadow v).regs ∧ Traced s t [.xfer [0x20, v] rx] := by
  subst hk hv
  rw [State.perform, State.regWrite_ok (bs := [_]) _ h] at hexec
  exact ⟨_, hexec, rfl, rfl, rfl, ⟨rfl, rfl, rfl, rfl⟩⟩

theorem configCall_completes
    (hexec : s.transition target = .next (s.perform (.config keep set) (State.finishEdge target)))
    (hv : configValue keep set s.configShadow = v) (h : s.spiReply 2 = .ok rx) :
    ∃ t, s.transition target = .next t ∧ t.Ended ∧ t.res.err = 0 ∧
      t.regs = ((s.setConfigShadow v).setMode target).regs ∧ Traced s t [.xfer [0x20, v] rx] := by
  subst hv
  rw [State.perform, State.regWrite_ok (bs := [_]) _ h] at hexec
  exact ⟨_, hexec, ⟨rfl, rfl⟩, rfl, rfl, ⟨rfl, rfl, rfl, rfl⟩⟩

theorem configCall_fails {e : BusError} (hexec : s.transition target = .next (s.perform (.config keep set) f))
    (hv : configValue keep set s.configShadow = v) (h : s.spiReply 2 = .error e) :
    ∃ t, s.transition target = .next t ∧ t.Ended ∧ t.res.err = 1 ∧ t.res.busErr = e ∧ t.regs = s.regs ∧
      Traced s t [.xferError [0x20, v] e] := by
  subst hv
  rw [State.perform, State.regWrite_error (bs := [_]) _ h] at hexec
  exact ⟨_, hexec, ⟨rfl, rfl⟩, rfl, rfl, rfl, ⟨rfl, rfl, rfl, rfl⟩⟩

/-! ### CE -/

theorem ceCall_goesOn (hexec : s.transition target = .next (s.perform (.ce l) State.advance)) (hk : s.seq.k = n)
    (h : s.pinReply = none) :
    ∃ t, s.transition target = .next t ∧ t.seq.busy = s.seq.busy ∧ t.seq.k = n + 1 ∧
      t.regs = (s.setCeShadow l.shadow).regs ∧ Traced s t [.ce l] := by
  subst hk
  rw [State.perform, State.setCe_ok _ h] at hexec
  exact ⟨_, hexec, rfl, rfl, rfl, ⟨rfl, rfl, rfl, rfl⟩⟩

theorem ceCall_completes (hexec : s.transition target = .next (s.perform (.ce l) (State.finishEdge target)))
    (h : s.pinReply = none) :
    ∃ t, s.transition target = .next t ∧ t.Ended ∧ t.res.err = 0 ∧
      t.regs = ((s.setCeShadow l.shadow).setMode target).regs ∧ Traced s t [.ce l] := by
  rw [State.perform, State.setCe_ok _ h] at hexec
  exact ⟨_, hexec, ⟨rfl, rfl⟩, rfl, rfl, ⟨rfl, rfl, rfl, rfl⟩⟩

theorem ceCall_fails {e : GpioError} (hexec : s.transition target = .next (s.perform (.ce l) f)) (h : s.pinReply = some e) :
    ∃ t, s.transition target = .next t ∧ t.Ended ∧ t.res.err = 2 ∧ t.res.pinErr = e ∧
      t.regs = (s.setCeShadow .unknown).regs ∧ Traced s t [.ceError l e] := by
  rw [State.perform, State.setCe_error _ h] at hexec
  exact ⟨_, hexec, ⟨rfl, rfl⟩, rfl, rfl, rfl, ⟨rfl, rfl, rfl, rfl⟩⟩

/-! ### The wait -/

theorem waitCall_completes {us : Nat} (hexec : s.transition target = .next (s.perform (.wait us) (State.finishEdge target))) :
    ∃ t lasted, s.transition target = .next t ∧ t.Ended ∧ t.res.err = 0 ∧ t.regs = (s.setMode target).regs ∧
      Traced s t [.wait us lasted] ∧ us ≤ lasted :=
  ⟨_, us + Config.freeExcess s.env.draws, hexec, ⟨rfl, rfl⟩, rfl, rfl, ⟨rfl, rfl, rfl, rfl⟩, Nat.le_add_right ..⟩

/-! ## The edges -/

/-- Settles O31: the CONFIG write, then the wait. -/
theorem powerDownToStandby : Obligations.PowerDownToStandby := by
  intro s hc hm
  have hedge : edgeCalls s.params s.mode .standby = some [.config 0xFF cfgPwrUp, .wait s.params.tPd2Stby] := by
    rw [hm]; rfl
  have hv := configValue_set cfgPwrUp s.configShadow
  have write (hk : s.seq.k = 0) := State.transition_more (pre := []) hc hedge (congrArg BitVec.toNat hk)
  have wait (hk : s.seq.k = 1) := State.transition_last (pre := [_]) hc hedge (congrArg BitVec.toNat hk)
  exact ⟨fun rx hk => configCall_goesOn (write hk) hk hv, fun e hk => configCall_fails (write hk) hv,
    fun hk => waitCall_completes (wait hk)⟩

/-- Settles O32: the CONFIG write, CE, then the wait. -/
theorem standbyToTransmit : Obligations.StandbyToTransmit := by
  intro s hc hm
  have hedge : edgeCalls s.params s.mode .transmit =
      some [.config (~~~cfgPrimRx) 0, .ce .high, .wait s.params.tCeHigh] := by rw [hm]; rfl
  have hv := configValue_clear (~~~cfgPrimRx) s.configShadow
  have write (hk : s.seq.k = 0) := State.transition_more (pre := []) hc hedge (congrArg BitVec.toNat hk)
  have drive (hk : s.seq.k = 1) := State.transition_more (pre := [_]) hc hedge (congrArg BitVec.toNat hk)
  have wait (hk : s.seq.k = 2) := State.transition_last (pre := [_, _]) hc hedge (congrArg BitVec.toNat hk)
  exact ⟨fun rx hk => configCall_goesOn (write hk) hk hv, fun e hk => configCall_fails (write hk) hv,
    fun hk => ceCall_goesOn (drive hk) hk, fun e hk => ceCall_fails (drive hk), fun hk => waitCall_completes (wait hk)⟩

/-- Settles O33: the CONFIG write, then CE. -/
theorem standbyToReceive : Obligations.StandbyToReceive := by
  intro s hc hm
  have hedge : edgeCalls s.params s.mode .receive = some [.config 0xFF cfgPrimRx, .ce .high] := by rw [hm]; rfl
  have hv := configValue_set cfgPrimRx s.configShadow
  have write (hk : s.seq.k = 0) := State.transition_more (pre := []) hc hedge (congrArg BitVec.toNat hk)
  have drive (hk : s.seq.k = 1) := State.transition_last (pre := [_]) hc hedge (congrArg BitVec.toNat hk)
  exact ⟨fun rx hk => configCall_goesOn (write hk) hk hv, fun e hk => configCall_fails (write hk) hv,
    fun e hk => ceCall_fails (drive hk), fun hk => ceCall_completes (drive hk)⟩

/-- Settles O34: the one call is CE. -/
theorem activeToStandby : Obligations.ActiveToStandby := by
  intro s hc hm hk
  have hedge : edgeCalls s.params s.mode .standby = some [.ce .low] := by
    obtain hm | hm := hm <;> rw [hm] <;> rfl
  have drive := State.transition_last (pre := []) hc hedge (congrArg BitVec.toNat hk)
  exact ⟨ceCall_completes drive, fun e => ceCall_fails drive⟩

/-- Settles O35: the one call is the CONFIG write. -/
theorem standbyOrPowerDownToPowerDown : Obligations.StandbyOrPowerDownToPowerDown := by
  intro s hc hm hk
  have hedge : edgeCalls s.params s.mode .powerDown = some [.config (~~~cfgPwrUp) 0] := by
    obtain hm | hm := hm <;> rw [hm] <;> rfl
  have hv := configValue_clear (~~~cfgPwrUp) s.configShadow
  have write := State.transition_last (pre := []) hc hedge (congrArg BitVec.toNat hk)
  exact ⟨fun rx => configCall_completes write hv, fun e => configCall_fails write hv⟩

/-- Settles O36: CE, then the CONFIG write. -/
theorem activeToPowerDown : Obligations.ActiveToPowerDown := by
  intro s hc hm
  have hedge : edgeCalls s.params s.mode .powerDown = some [.ce .low, .config (~~~cfgPwrUp) 0] := by
    obtain hm | hm := hm <;> rw [hm] <;> rfl
  have hv := configValue_clear (~~~cfgPwrUp) s.configShadow
  have drive (hk : s.seq.k = 0) := State.transition_more (pre := []) hc hedge (congrArg BitVec.toNat hk)
  have write (hk : s.seq.k = 1) := State.transition_last (pre := [_]) hc hedge (congrArg BitVec.toNat hk)
  exact ⟨fun hk => ceCall_goesOn (drive hk) hk, fun e hk => ceCall_fails (drive hk),
    fun rx hk => configCall_completes (write hk) hv, fun e hk => configCall_fails (write hk) hv⟩

end Sys2Proof.Machine
end

section
/-! PROOFS. Payload transport and the flushes: WRITE_TX_PAYLOAD (O39-O41), READ_RX_PAYLOAD (O42, O44), and FLUSH_TX and FLUSH_RX
(O45). -/

namespace Sys2Proof.Machine

variable {s : State} {rx : List Byte} {noAck : Bool} {len : BitVec 6} {data : Payload} {max : Byte} {cap : BitVec 6}
  {limit : Nat}

/-! ## The first step of WRITE_TX_PAYLOAD (R180-R182, R184) -/

/-- The payload limit is held as a byte in both payload modes that a configured block can have (R181). -/
theorem maxTx_of_limit {pm : PayloadMode}
    (h : pm = .dynamic ∧ limit = 32 ∨ ∃ n, pm = .static n ∧ limit = n.toNat) :
    ∃ max, maxTx pm = some max ∧ max.toNat = limit := by
  obtain ⟨rfl, rfl⟩ | ⟨n, rfl, rfl⟩ := h
  · exact ⟨32, rfl, rfl⟩
  · exact ⟨n.setWidth 8, rfl, by simp; omega⟩

/-- A payload length and its limit are compared as bytes; the zero extension of the length changes nothing. -/
theorem byte_lt_setWidth_iff (hmax : max.toNat = limit) : max < len.setWidth 8 ↔ limit < len.toNat := by
  bv_omega

/-- The checks of WRITE_TX_PAYLOAD, in R180's order: the length, then the mode. -/
theorem exec_writeTx_first (hc : s.configured = true) (hk : s.seq.k = 0) (hmax : maxTx s.payloadMode = some max) :
    exec (.writeTxPayload noAck len data) s =
      if max < len.setWidth 8 then .next (s.raise (.payloadTooLarge (len.setWidth 8) max))
      else if s.mode.isIn 0b0110 then .next s.txStatusCall
      else .next (s.raise (.invalidMode 0b0110 s.mode)) := by
  change execWriteTxPayload noAck len data s = _
  rw [execWriteTxPayload, if_pos hk, State.txBegin, if_pos hc, hmax]

/-- Settles O39: the length is checked first, whatever the mode; a length within the limit leaves the check of the mode. -/
theorem writeTxRefusals : Obligations.WriteTxRefusals := by
  intro noAck len data s limit hc hk hlimit
  obtain ⟨max, hmax, hmaxNat⟩ := maxTx_of_limit hlimit
  have hexec := exec_writeTx_first (noAck := noAck) (len := len) (data := data) hc hk hmax
  have hlen := byte_lt_setWidth_iff (len := len) hmaxNat
  refine ⟨fun htoo => ?_, fun hfits hmode => ?_⟩
  · have hgiven : (len.setWidth 8).toNat = len.toNat := by simp; omega
    rw [if_pos (hlen.mpr htoo)] at hexec
    exact ⟨_, hexec, ⟨rfl, rfl⟩, rfl, ⟨rfl, rfl, rfl, rfl⟩, rfl, hgiven, hmaxNat⟩
  · have hrefused : ¬s.mode.isIn 0b0110 = true := by
      rw [mode_isIn_tx]
      obtain hm | hm := hmode <;> simp [hm]
    rw [if_neg (mt hlen.mp (by omega)), if_neg hrefused] at hexec
    exact ⟨_, hexec, ⟨rfl, rfl⟩, rfl, ⟨rfl, rfl, rfl, rfl⟩, rfl, rfl, rfl⟩

/-- The status read of both payload requests, when the bus answers (R182, R186). -/
theorem State.statusRead_ok (f : List Byte → State → State) (h : s.spiReply 2 = .ok rx) :
    s.regRead ChipReg.status.addr 1 f = f rx (s.received [0x07, s.params.dummy] rx) :=
  State.regRead_ok (n := 1) f h

theorem State.txStatusCall_full (h : s.spiReply 2 = .ok rx) (hfull : txFull (byteAt rx 1) = true) :
    s.txStatusCall = (s.received [0x07, s.params.dummy] rx).raise .fifoFull :=
  (State.statusRead_ok _ h).trans (if_pos hfull)

theorem State.txStatusCall_room (h : s.spiReply 2 = .ok rx) (hroom : txFull (byteAt rx 1) = false) :
    s.txStatusCall = (s.received [0x07, s.params.dummy] rx).advance :=
  (State.statusRead_ok _ h).trans (if_neg (by simp [hroom]))

/-- Settles O40, by TX_FULL, once the checks have passed. -/
theorem writeTxStatusRead : Obligations.WriteTxStatusRead := by
  intro noAck len data s limit rx hc hk hlimit hfits hmode hreply
  obtain ⟨max, hmax, hmaxNat⟩ := maxTx_of_limit hlimit
  have hexec := exec_writeTx_first (noAck := noAck) (len := len) (data := data) hc hk hmax
  rw [if_neg (mt (byte_lt_setWidth_iff hmaxNat).mp (by omega)), if_pos ((mode_isIn_tx _).mpr hmode)] at hexec
  cases hfull : (byteAt rx 1).getLsbD 0 with
  | true =>
    rw [State.txStatusCall_full hreply hfull] at hexec
    exact ⟨_, hexec, rfl, ⟨rfl, rfl, rfl, rfl⟩, fun _ => ⟨⟨rfl, rfl⟩, rfl⟩, nofun⟩
  | false =>
    rw [State.txStatusCall_room hreply hfull] at hexec
    exact ⟨_, hexec, rfl, ⟨rfl, rfl, rfl, rfl⟩, nofun, fun _ => ⟨rfl, by simp [hk]⟩⟩

/-! ## The payload write (R183) -/

theorem exec_writeTx_second (hk : s.seq.k = 1) :
    exec (.writeTxPayload noAck len data) s =
      .next (s.xfer (txCommand noAck :: data.front len.toNat) fun _ t => t.succeed id) := by
  change execWriteTxPayload noAck len data s = _
  rw [execWriteTxPayload, if_neg (by simp [hk]), if_pos hk]

/-- Settles O41. -/
theorem writeTxCompletes : Obligations.WriteTxCompletes := by
  intro noAck len data s rx hk hreply
  have hexec := exec_writeTx_second (noAck := noAck) (len := len) (data := data) hk
  rw [State.xfer_ok (tx := _ :: _) _ hreply] at hexec
  exact ⟨_, hexec, ⟨rfl, rfl⟩, rfl, rfl, rfl, rfl, ⟨rfl, rfl, rfl, rfl⟩⟩

/-! ## The status read of READ_RX_PAYLOAD (R186) -/

theorem exec_readRx_first (hc : s.configured = true) (hk : s.seq.k = 0) :
    exec (.readRxPayload cap) s = .next (s.rxStatusCall cap) := by
  change execReadRxPayload cap s = _
  rw [execReadRxPayload, if_pos hk, if_pos hc]

/-- The pipe codes above 5 say that no payload is available (R41). -/
theorem rxAvailable_iff (status : Byte) : rxAvailable status = true ↔ status.extractLsb' 1 3 ≤ 5 := decide_eq_true_iff

theorem State.rxStatusCall_empty (h : s.spiReply 2 = .ok rx) (hempty : 5 < (byteAt rx 1).extractLsb' 1 3)
    (cap : BitVec 6) : s.rxStatusCall cap = (s.received [0x07, s.params.dummy] rx).raise .fifoEmpty :=
  (State.statusRead_ok _ h).trans (if_neg (by rwa [rxAvailable_iff, BitVec.not_le]))

/-- Under Static(N) the length is known at once, and compared with the host's capacity (R189 (a)). -/
theorem State.rxStatusCall_static {n : BitVec 6} (h : s.spiReply 2 = .ok rx) (havail : (byteAt rx 1).extractLsb' 1 3 ≤ 5)
    (hpm : s.payloadMode = .static n) (cap : BitVec 6) :
    s.rxStatusCall cap = (s.received [0x07, s.params.dummy] rx).rxLength cap (n.setWidth 8) := by
  rw [State.rxStatusCall, State.statusRead_ok _ h, if_pos ((rxAvailable_iff _).mpr havail)]
  simp only [State.received_payloadMode, hpm]

/-- Outside Static the request goes on to the width read (R187). -/
theorem State.rxStatusCall_width (h : s.spiReply 2 = .ok rx) (havail : (byteAt rx 1).extractLsb' 1 3 ≤ 5)
    (hpm : ∀ n, s.payloadMode ≠ .static n) (cap : BitVec 6) :
    s.rxStatusCall cap = (s.received [0x07, s.params.dummy] rx).advance := by
  rw [State.rxStatusCall, State.statusRead_ok _ h, if_pos ((rxAvailable_iff _).mpr havail)]
  cases hmode : s.payloadMode with
  | static n => exact absurd hmode (hpm n)
  | unset | dynamic => simp only [State.received_payloadMode, hmode]

/-- The status read writes no register, and is its one transaction, whatever STATUS holds. -/
theorem State.rxStatusCall_frame (h : s.spiReply 2 = .ok rx) (cap : BitVec 6) :
    (s.rxStatusCall cap).regs = s.regs ∧ Traced s (s.rxStatusCall cap) [.xfer [0x07, s.params.dummy] rx] := by
  by_cases havail : (byteAt rx 1).extractLsb' 1 3 ≤ 5
  · cases hpm : s.payloadMode with
    | static n =>
      rw [State.rxStatusCall_static h havail hpm]
      simp [Traced]
    | unset | dynamic =>
      rw [State.rxStatusCall_width h havail (by simp [hpm])]
      simp [Traced]
  · rw [State.rxStatusCall_empty h (BitVec.not_le.mp havail)]
    simp [Traced]

/-- Settles O42, by the pipe code, and then by the payload mode and how N compares with the host's capacity. -/
theorem readRxStatusRead : Obligations.ReadRxStatusRead := by
  intro cap s rx hc hk hreply
  obtain ⟨hregs, htraced⟩ := State.rxStatusCall_frame hreply cap
  refine ⟨_, exec_readRx_first hc hk, hregs, htraced, fun hempty => ?_, fun havail => ⟨fun n hpm => ?_, fun hpm => ?_⟩⟩
  · rw [State.rxStatusCall_empty hreply hempty]
    exact ⟨⟨rfl, rfl⟩, rfl⟩
  · rw [State.rxStatusCall_static hreply havail hpm]
    refine ⟨fun htoo => ?_, fun hfits => ?_⟩
    · rw [State.rxLength_of_gt (by bv_omega)]
      exact ⟨⟨rfl, rfl⟩, rfl, rfl, rfl⟩
    · rw [State.rxLength_of_le (by bv_omega)]
      exact ⟨rfl, by simp [hk]⟩
  · rw [State.rxStatusCall_width hreply havail (by simp [hpm])]
    exact ⟨rfl, by simp [hk]⟩

/-! ## The payload read (R188) -/

/-- The last call is the payload read in both payload modes. -/
theorem exec_readRx_last {len : Byte}
    (h : (∃ n, s.payloadMode = .static n ∧ s.seq.k = 1 ∧ len = n.setWidth 8) ∨
      s.payloadMode = .dynamic ∧ s.seq.k = 2 ∧ len = s.seq.width) :
    exec (.readRxPayload cap) s = .next (s.rxPayloadCall len) := by
  obtain ⟨n, hpm, hk, rfl⟩ | ⟨hpm, hk, rfl⟩ := h
  · exact execReadRxPayload_static hk hpm
  · exact execReadRxPayload_read hk (by simp [hpm])

theorem State.rxPayloadCall_ok {len : Byte} (h : s.spiReply (len.toNat + 1) = .ok rx) :
    s.rxPayloadCall len =
      (s.received (0x61 :: List.replicate len.toNat s.params.dummy) rx).succeed fun res =>
        { res with len := len.setWidth 6, data := Payload.overlay (rx.drop 1) res.data } :=
  State.xfer_ok _ (by simpa using h)

/-- Settles O44: a length up to 32 fits `res.len`, and as many bytes as it says come back behind the status byte (R13). -/
theorem readRxCompletes : Obligations.ReadRxCompletes := by
  intro cap s len rx hlen hlast hreply
  have hresponse : (rx.drop 1).length = len.toNat := by simp [State.spiReply_length hreply]
  have hcount : (len.setWidth 6).toNat = len.toNat := by bv_omega
  have hexec := exec_readRx_last (cap := cap) hlast
  rw [State.rxPayloadCall_ok hreply] at hexec
  exact ⟨_, hexec, ⟨rfl, rfl⟩, rfl, rfl, rfl, hcount, Payload.front_overlay_of_length hresponse hlen _, rfl,
    ⟨rfl, rfl, rfl, rfl⟩⟩

/-! ## The flushes (R190-R192) -/

theorem mode_isIn_flush (m : Mode) : m.isIn 0b1011 = true ↔ m ≠ .transmit := by
  cases m <;> decide

theorem State.flush_refused (hm : s.mode = .transmit) (cmd : Byte) :
    s.flush cmd = s.raise (.invalidMode 0b1011 s.mode) :=
  if_neg (mt (mode_isIn_flush _).mp (not_not.mpr hm))

theorem State.flush_xfer (hm : s.mode ≠ .transmit) (cmd : Byte) : s.flush cmd = s.xfer [cmd] fun _ t => t.succeed id :=
  if_pos ((mode_isIn_flush _).mpr hm)

/-- Settles O45: the two requests are the one flush of their command, which the mode alone refuses. -/
theorem flushesComplete : Obligations.FlushesComplete := by
  intro i cmd s hi
  have hexec : exec i s = .next (s.flush cmd) := by
    simp only [List.mem_cons, Prod.mk.injEq, List.not_mem_nil, or_false] at hi
    obtain ⟨rfl, rfl⟩ | ⟨rfl, rfl⟩ := hi <;> rfl
  refine ⟨fun hm => ?_, fun rx hm hreply => ?_, fun e hm hreply => ?_⟩
  · rw [State.flush_refused hm] at hexec
    exact ⟨_, hexec, ⟨rfl, rfl⟩, rfl, ⟨rfl, rfl, rfl, rfl⟩, rfl, rfl, congrArg Mode.code hm⟩
  · rw [State.flush_xfer hm, State.xfer_ok (tx := [cmd]) _ hreply] at hexec
    exact ⟨_, hexec, ⟨rfl, rfl⟩, rfl, ⟨rfl, rfl, rfl, rfl⟩, rfl, rfl, rfl⟩
  · rw [State.flush_xfer hm, State.xfer_error (tx := [cmd]) _ hreply] at hexec
    exact ⟨_, hexec, State.busFailed_outcome ..⟩

end Sys2Proof.Machine
end

section
/-! PROOFS. How a request ends: the refusals, before its first call, and the errors of its calls (O48, O49). -/

namespace Sys2Proof.Machine

variable {s t : State} {i : Instr} {codes : List (BitVec 4)} {passed : Bool}

/-! ## The codes of R214, by when they are raised (R216) -/

/-- The codes of the checks a request makes before its first call. -/
def refusalCodes : Instr → List (BitVec 4)
  | .sendCommand _ _ _ => [4]
  | .apply _ => [8, 5]
  | .transitionPowerDown | .transitionStandby | .transitionTransmit | .transitionReceive => [8, 3]
  | .writeTxPayload _ _ _ => [8, 4, 5]
  | .readRxPayload _ => [8]
  | .flushTx | .flushRx => [5]
  | _ => []

/-- The codes a request can end with once it has made a call: the call's own error (R213), or what the answer shows. -/
def callCodes : Instr → List (BitVec 4)
  | .apply _ | .transitionPowerDown | .transitionStandby | .transitionTransmit | .transitionReceive => [1, 2]
  | .writeTxPayload _ _ _ => [1, 7]
  | .readRxPayload _ => [1, 6, 4]
  | _ => [1]

theorem refusalCodes_subset (i : Instr) : refusalCodes i ⊆ errorCodes i := by
  cases i <;> dsimp only [refusalCodes, errorCodes] <;> decide

theorem callCodes_subset (i : Instr) : callCodes i ⊆ errorCodes i := by
  cases i <;> dsimp only [callCodes, errorCodes] <;> decide

/-- Once a call has been made, the read side's PayloadTooLarge is the one protocol error left (R216). -/
theorem callCodes_not_refusal {c : BitVec 4} (h : c ∈ callCodes i) :
    ¬(c = 3 ∨ c = 5 ∨ c = 8 ∨ c = 4 ∧ ∀ cap, i ≠ .readRxPayload cap) := by
  cases i with
  | readRxPayload cap =>
    have h : c = 1 ∨ c = 6 ∨ c = 4 := by simpa [callCodes] using h
    obtain rfl | rfl | rfl := h <;> simp
  | apply _ | transitionPowerDown | transitionStandby | transitionTransmit | transitionReceive =>
    have h : c = 1 ∨ c = 2 := by simpa [callCodes] using h
    obtain rfl | rfl := h <;> simp
  | writeTxPayload _ _ _ =>
    have h : c = 1 ∨ c = 7 := by simpa [callCodes] using h
    obtain rfl | rfl := h <;> simp
  | _ =>
    have h : c = 1 := by simpa [callCodes] using h
    simp [h]

/-! ## The steps after the checks -/

/-- From `s` to `t` the request goes on, or it has ended with success or with an error of `codes`. -/
def EndsIn (codes : List (BitVec 4)) (s t : State) : Prop :=
  t.seq.busy = s.seq.busy ∨ t.res.err = 0 ∨ t.res.err ∈ codes

theorem advance_endsIn (s : State) : EndsIn codes s s.advance := .inl rfl

theorem succeed_endsIn (named : Result → Result) (u : State) : EndsIn codes s (u.succeed named) := .inr (.inl rfl)

theorem raise_endsIn {e : ReqError} (c : BitVec 4) (he : e.code = c) (hc : c ∈ codes) (u : State) :
    EndsIn codes s (u.raise e) :=
  .inr (.inr (by simpa [he] using hc))

/-- A transaction fails with Transport, or its continuation ends the step. -/
theorem xfer_endsIn {tx : List Byte} {f : List Byte → State → State} (h1 : 1 ∈ codes)
    (hf : ∀ rx, EndsIn codes (s.received tx rx) (f rx (s.received tx rx))) : EndsIn codes s (s.xfer tx f) := by
  obtain ⟨e, -, h⟩ | ⟨rx, -, -, h⟩ := s.xfer_cases tx f <;> rw [h]
  · exact raise_endsIn 1 rfl h1 _
  · exact hf rx

theorem sendRaw_endsIn (h1 : 1 ∈ codes) (opcode : Byte) (data : List Byte) (s : State) :
    EndsIn codes s (s.sendRaw opcode data) :=
  xfer_endsIn h1 fun _ => succeed_endsIn ..

/-- A call of APPLY or of a transition fails with Transport or Pin only. -/
theorem runCalls_endsIn {calls : List Call} {done : State → State} (h : s.runCalls calls done = .next t) :
    EndsIn [1, 2] s t := by
  obtain ⟨c, -, ⟨tx, e, rfl⟩ | ⟨l, e, rfl⟩ | ⟨rx, rfl⟩⟩ := State.runCalls_cases h
  · exact raise_endsIn 1 rfl (by decide) _
  · exact raise_endsIn 2 rfl (by decide) _
  · split
    · exact succeed_endsIn ..
    · exact .inl (by simp)

theorem txStatusCall_endsIn (s : State) : EndsIn [1, 7] s s.txStatusCall :=
  xfer_endsIn (by decide) fun rx => by
    split
    · exact raise_endsIn 7 rfl (by decide) _
    · exact advance_endsIn _

theorem rxLength_endsIn (cap : BitVec 6) (len : Byte) (s : State) : EndsIn [1, 6, 4] s (s.rxLength cap len) := by
  unfold State.rxLength
  split
  · exact raise_endsIn 4 rfl (by decide) _
  · exact advance_endsIn s

theorem rxStatusCall_endsIn (cap : BitVec 6) (s : State) : EndsIn [1, 6, 4] s (s.rxStatusCall cap) :=
  xfer_endsIn (by decide) fun rx => by
    split
    · split
      · exact rxLength_endsIn ..
      · exact advance_endsIn _
      · exact advance_endsIn _
    · exact raise_endsIn 6 rfl (by decide) _

theorem rxWidthCall_endsIn (cap : BitVec 6) (s : State) : EndsIn [1, 6, 4] s (s.rxWidthCall cap) :=
  xfer_endsIn (by decide) fun rx => by
    split
    · exact raise_endsIn 4 rfl (by decide) _
    · exact rxLength_endsIn ..

theorem rxPayloadCall_endsIn (len : Byte) (s : State) : EndsIn [1, 6, 4] s (s.rxPayloadCall len) :=
  xfer_endsIn (by decide) fun _ => succeed_endsIn ..

/-! ## Every step of a request -/

/-- Everything a step of a request can do: one of its checks raises an error of `refusals`, which cannot be once its checks have
`passed` (R216), unless it has made no call; or it makes a call, and can end with `calls`. -/
inductive RefusesOrCalls (refusals calls : List (BitVec 4)) (passed : Bool) (s : State) : State → Prop
  | refuses (e : ReqError) (hcode : e.code ∈ refusals) (hfirst : s.seq.k = 0 ∨ passed = false) :
    RefusesOrCalls refusals calls passed s (s.raise e)
  | calls {t : State} (hends : EndsIn calls s t) : RefusesOrCalls refusals calls passed s t

/-- A transition is refused for `configured` or for its edge, both of which hold further on in its calls (log 29). -/
theorem transition_refusesOrCalls {target : Mode} (h : s.transition target = .next t) :
    RefusesOrCalls [8, 3] [1, 2] (s.configured && admitted.onEdge target s) s t := by
  unfold State.transition at h
  split at h
  · split at h
    · exact .calls (runCalls_endsIn h)
    · rename_i hedge
      cases h
      exact .refuses _ (by simp [ReqError.code]) (.inr (by simp [admitted.onEdge, hedge]))
  · rename_i hc
    cases h
    exact .refuses _ (by simp [ReqError.code]) (.inr (by simp [hc]))

theorem applyRefusal_code {cfg : Configuration} {e : ReqError} (h : s.applyRefusal cfg = some e) : e.code ∈ [8, 5] := by
  unfold State.applyRefusal at h
  split at h
  · cases h
    simp [ReqError.code]
  · split at h <;> cases h
    simp [ReqError.code]

theorem execApply_refusesOrCalls {cfg : Configuration} (h : execApply cfg s = .next t) :
    RefusesOrCalls [8, 5] [1, 2] passed s t := by
  by_cases hk : s.seq.k = 0
  · cases hr : s.applyRefusal cfg with
    | some e =>
      cases (execApply_refused hk hr).symm.trans h
      exact .refuses e (applyRefusal_code hr) (.inl hk)
    | none =>
      rw [execApply_accepted hk hr] at h
      exact .calls (runCalls_endsIn (s := s.applyChoices cfg) h)
  · rw [execApply_later hk] at h
    exact .calls (runCalls_endsIn h)

theorem txBegin_refusesOrCalls {len : BitVec 6} (hk : s.seq.k = 0) (h : s.txBegin len = .next t) :
    RefusesOrCalls [8, 4, 5] [1, 7] passed s t := by
  unfold State.txBegin at h
  split at h
  · split at h
    · cases h
    · split at h
      · cases h
        exact .refuses _ (by simp [ReqError.code]) (.inl hk)
      · split at h <;> cases h
        · exact .calls (txStatusCall_endsIn s)
        · exact .refuses _ (by simp [ReqError.code]) (.inl hk)
  · cases h
    exact .refuses _ (by simp [ReqError.code]) (.inl hk)

theorem execWriteTxPayload_refusesOrCalls {noAck : Bool} {len : BitVec 6} {data : Payload}
    (h : execWriteTxPayload noAck len data s = .next t) : RefusesOrCalls [8, 4, 5] [1, 7] passed s t := by
  unfold execWriteTxPayload at h
  split at h
  · rename_i hk
    exact txBegin_refusesOrCalls hk h
  · split at h <;> cases h
    exact .calls (xfer_endsIn (by decide) fun _ => succeed_endsIn ..)

theorem execReadRxPayload_refusesOrCalls {cap : BitVec 6} (h : execReadRxPayload cap s = .next t) :
    RefusesOrCalls [8] [1, 6, 4] passed s t := by
  unfold execReadRxPayload at h
  split at h
  · rename_i hk
    split at h <;> cases h
    · exact .calls (rxStatusCall_endsIn cap s)
    · exact .refuses _ (by simp [ReqError.code]) (.inl hk)
  · split at h
    · split at h <;> cases h
      exact .calls (rxPayloadCall_endsIn _ s)
    · split at h
      · cases h
        exact .calls (rxWidthCall_endsIn cap s)
      · split at h <;> cases h
        exact .calls (rxPayloadCall_endsIn _ s)

theorem flush_refusesOrCalls (cmd : Byte) (s : State) : RefusesOrCalls [5] [1] false s (s.flush cmd) := by
  unfold State.flush
  split
  · exact .calls (xfer_endsIn (by decide) fun _ => succeed_endsIn ..)
  · exact .refuses _ (by simp [ReqError.code]) (.inr rfl)

theorem sendCommand_refusesOrCalls (opcode : Byte) (len : BitVec 6) (data : Payload) (s : State) :
    RefusesOrCalls [4] [1] false s (s.sendCommand opcode len data) := by
  unfold State.sendCommand
  split
  · exact .refuses _ (by simp [ReqError.code]) (.inr rfl)
  · exact .calls (sendRaw_endsIn (by decide) ..)

theorem exec_refusesOrCalls (h : exec i s = .next t) :
    RefusesOrCalls (refusalCodes i) (callCodes i) (admitted i s) s t := by
  cases i with
  | apply cfg => exact execApply_refusesOrCalls h
  | transitionPowerDown | transitionStandby | transitionTransmit | transitionReceive => exact transition_refusesOrCalls h
  | writeTxPayload noAck len data => exact execWriteTxPayload_refusesOrCalls h
  | readRxPayload cap => exact execReadRxPayload_refusesOrCalls h
  | sendCommand opcode len data => cases h; exact sendCommand_refusesOrCalls ..
  | flushTx | flushRx => cases h; exact flush_refusesOrCalls ..
  | readRegister addr => cases h; exact .calls (xfer_endsIn (.head _) fun _ => succeed_endsIn ..)
  | writeRegister addr value =>
    cases h
    exact .calls (xfer_endsIn (.head _) fun _ => by split <;> exact succeed_endsIn ..)
  | _ => cases h; exact .calls (sendRaw_endsIn (.head _) ..)

/-- A step that ends the request leaves success or one of its codes. -/
theorem RefusesOrCalls.err {refusals calls : List (BitVec 4)} (h : RefusesOrCalls refusals calls passed s t)
    (hb : s.seq.busy = true) (hend : t.seq.busy = false) :
    t.res.err = 0 ∨ t.res.err ∈ refusals ∨ t.res.err ∈ calls := by
  cases h with
  | refuses e hcode _ => exact .inr (.inl (by simpa using hcode))
  | calls hends =>
    obtain hgoes | hok | hcode := hends
    · simp [hb, hend] at hgoes
    · exact .inl hok
    · exact .inr (.inr hcode)

/-- Settles O49: a frame that spells no SPI command ends as the SEND_COMMAND of its bytes does. -/
theorem errorCodesPerRequest : Obligations.ErrorCodesPerRequest := by
  intro d s t hb h hend
  match d with
  | .ok i =>
    obtain hok | hcode := (exec_refusesOrCalls h).err hb hend
    · exact .inl ⟨nofun, hok⟩
    · exact .inr (hcode.elim (refusalCodes_subset i ·) (callCodes_subset i ·))
  | .error (.reservedOp _) =>
    cases h
    exact .inr (.head _)
  | .error (.undefinedCommand _) | .error (.dataCount _ _) =>
    cases h
    obtain hok | hcode := (sendCommand_refusesOrCalls ..).err hb hend
    · exact .inl ⟨nofun, hok⟩
    · exact .inr (List.mem_append.mpr hcode)

/-- Settles O48: a code of those checks is not one that a call leaves, so a check has raised it, and no call has been made
before. -/
theorem protocolRefusalsTouchNothing : Obligations.ProtocolRefusalsTouchNothing := by
  intro i s t hb hplaced h hend herr
  cases exec_refusesOrCalls h with
  | refuses e _ hfirst => exact ⟨hplaced.elim id fun ha => hfirst.resolve_right (by simp [ha]), e, rfl⟩
  | calls hends =>
    obtain hgoes | hok | hcode := hends
    · simp [hb, hend] at hgoes
    · simp [hok] at herr
    · exact absurd herr (callCodes_not_refusal hcode)

end Sys2Proof.Machine
end

section
/-! PROOFS. The check of `configured`, which comes first (O29), and the reset input (O7). -/

namespace Sys2Proof.Machine

variable {s : State}

/-! ## NotConfigured (R215) -/

theorem State.transition_notConfigured (hc : s.configured = false) (target : Mode) :
    s.transition target = .next (s.raise (.configError .notConfigured)) :=
  if_neg (by simp [hc])

theorem execWriteTxPayload_notConfigured (hc : s.configured = false) (hk : s.seq.k = 0) (noAck : Bool) (len : BitVec 6)
    (data : Payload) : execWriteTxPayload noAck len data s = .next (s.raise (.configError .notConfigured)) := by
  rw [execWriteTxPayload, if_pos hk, State.txBegin, if_neg (by simp [hc])]

theorem execReadRxPayload_notConfigured (hc : s.configured = false) (hk : s.seq.k = 0) (cap : BitVec 6) :
    execReadRxPayload cap s = .next (s.raise (.configError .notConfigured)) := by
  rw [execReadRxPayload, if_pos hk, if_neg (by simp [hc])]

/-- Settles O29, request by request: each raises NotConfigured. -/
theorem notConfiguredRefusals : Obligations.NotConfiguredRefusals := by
  intro i s hc hk hi
  have hexec : exec i s = .next (s.raise (.configError .notConfigured)) := by
    obtain rfl | rfl | rfl | rfl | ⟨noAck, len, data, rfl⟩ | ⟨cap, rfl⟩ := hi
    · exact State.transition_notConfigured hc .powerDown
    · exact State.transition_notConfigured hc .standby
    · exact State.transition_notConfigured hc .transmit
    · exact State.transition_notConfigured hc .receive
    · exact execWriteTxPayload_notConfigured hc hk noAck len data
    · exact execReadRxPayload_notConfigured hc hk cap
  exact ⟨_, hexec, ⟨rfl, rfl⟩, rfl, ⟨rfl, rfl, rfl, rfl⟩, rfl, rfl⟩

/-! ## The reset input (R217, R240) -/

theorem step_reset (hr : s.resetLevel = true) : step s = .next s.takeReset := if_pos hr

/-- Settles O7: the step is the reset, whose event tells a cut call by `seq.busy`. -/
theorem resetInputWins : Obligations.ResetInputWins := by
  intro s hr
  refine ⟨_, if s.seq.busy then some (Config.freeReached s.env.draws) else none, step_reset hr,
    rfl, rfl, rfl, rfl, rfl, rfl, rfl, rfl, rfl, ⟨rfl, rfl, rfl, rfl⟩, fun hb => ?_, fun hb => ?_⟩
  · simp [hb]
  · simp [hb]

end Sys2Proof.Machine
end

section
/-! PROOFS. From the invariant, no step faults, so no run stops (O56). -/

namespace Sys2Proof.Machine

variable {s t : State} {i : Instr}

/-! ## A step of a request that is placed (R27, R216, log 14) -/

theorem State.runCalls_progress {calls : List Call} (hk : s.seq.k.toNat < calls.length) (done : State → State) :
    ∃ t, s.runCalls calls done = .next t :=
  ⟨_, State.runCalls_of_getElem done (List.getElem?_eq_getElem hk)⟩

/-- At the first call `seq.k` names a call of every list that has one. -/
theorem State.first_lt_length {calls : List Call} (hk : s.seq.k = 0) (hne : calls ≠ []) :
    s.seq.k.toNat < calls.length := by
  simpa [hk] using List.length_pos_iff.mpr hne

/-- A step of a legal edge makes a call; every other transition is refused. -/
theorem transition_progress {target : Mode}
    (hplaced : s.seq.k = 0 ∨ (s.configured && admitted.onEdge target s) = true) : ∃ t, s.transition target = .next t := by
  cases hc : s.configured with
  | false => exact ⟨_, State.transition_notConfigured hc target⟩
  | true =>
    cases hedge : edgeCalls s.params s.mode target with
    | none => exact ⟨_, State.transition_illegal hc hedge⟩
    | some calls =>
      rw [State.transition_legal hc hedge]
      refine State.runCalls_progress (hplaced.elim (State.first_lt_length · (edgeCalls_length hedge).1) fun h => ?_) _
      simpa [hc, admitted.onEdge, hedge] using h

theorem execApply_progress {cfg : Configuration} (hplaced : s.seq.k = 0 ∨ admitted (.apply cfg) s = true) :
    ∃ t, execApply cfg s = .next t := by
  by_cases hk : s.seq.k = 0
  · cases hr : s.applyRefusal cfg with
    | some e => exact ⟨_, execApply_refused hk hr⟩
    | none =>
      rw [execApply_accepted hk hr]
      exact State.runCalls_progress (State.first_lt_length (s := s.applyChoices cfg) hk (applyCalls_ne_nil _ _ _ _)) _
  · have hadm := hplaced.resolve_left hk
    simp only [admitted, Bool.and_eq_true, decide_eq_true_eq] at hadm
    obtain ⟨-, hcall⟩ := hadm
    rw [execApply_later hk]
    exact State.runCalls_progress hcall _

/-- A configured block has a payload limit (R181). -/
theorem maxTx_of_configured (hp : s.PayloadModeOk) (hc : s.configured = true) : ∃ max, maxTx s.payloadMode = some max := by
  cases hpm : s.payloadMode with
  | unset => exact absurd hpm (hp.2 hc)
  | static n => exact ⟨_, rfl⟩
  | dynamic => exact ⟨_, rfl⟩

theorem execWriteTxPayload_progress {noAck : Bool} {len : BitVec 6} {data : Payload} (hp : s.PayloadModeOk)
    (hplaced : s.seq.k = 0 ∨ admitted (.writeTxPayload noAck len data) s = true) :
    ∃ t, execWriteTxPayload noAck len data s = .next t := by
  obtain hk | hadm := hplaced
  · cases hc : s.configured with
    | false => exact ⟨_, execWriteTxPayload_notConfigured hc hk ..⟩
    | true =>
      obtain ⟨max, hmax⟩ := maxTx_of_configured hp hc
      have hexec := exec_writeTx_first (noAck := noAck) (len := len) (data := data) hc hk hmax
      split_ifs at hexec <;> exact ⟨_, hexec⟩
  · simp only [admitted, Bool.and_eq_true, decide_eq_true_eq] at hadm
    obtain ⟨⟨-, hk⟩, -⟩ := hadm
    exact ⟨_, exec_writeTx_second hk⟩

theorem execReadRxPayload_progress {cap : BitVec 6} (hplaced : s.seq.k = 0 ∨ admitted (.readRxPayload cap) s = true) :
    ∃ t, execReadRxPayload cap s = .next t := by
  obtain hk | hadm := hplaced
  · cases hc : s.configured with
    | false => exact ⟨_, execReadRxPayload_notConfigured hc hk cap⟩
    | true => exact ⟨_, exec_readRx_first hc hk⟩
  · cases hpm : s.payloadMode with
    | unset => simp [admitted, hpm] at hadm
    | static n =>
      obtain ⟨-, hk, -⟩ : s.configured = true ∧ s.seq.k = 1 ∧ n ≤ cap := by simpa [admitted, hpm] using hadm
      exact ⟨_, execReadRxPayload_static hk hpm⟩
    | dynamic =>
      have hdynamic : ∀ n, s.payloadMode ≠ .static n := by simp [hpm]
      obtain ⟨-, hk | ⟨⟨hk, -⟩, -⟩⟩ : s.configured = true ∧
          (s.seq.k = 1 ∨ (s.seq.k = 2 ∧ s.seq.width ≤ 32) ∧ s.seq.width ≤ cap.setWidth 8) := by
        simpa [admitted, hpm] using hadm
      · exact ⟨_, execReadRxPayload_width hk hdynamic⟩
      · exact ⟨_, execReadRxPayload_read hk hdynamic⟩

theorem exec_progress (hplaced : s.seq.k = 0 ∨ admitted i s = true) (hp : s.PayloadModeOk) :
    ∃ t, exec i s = .next t := by
  have oneCall (hi : severalCalls i = false) : ∃ t, exec i s = .next t := by
    obtain ⟨t, ht, -⟩ := exec_oneCall hi s
    exact ⟨t, ht⟩
  cases i with
  | apply cfg => exact execApply_progress hplaced
  | transitionPowerDown | transitionStandby | transitionTransmit | transitionReceive => exact transition_progress hplaced
  | writeTxPayload noAck len data => exact execWriteTxPayload_progress hp hplaced
  | readRxPayload cap => exact execReadRxPayload_progress hplaced
  | _ => exact oneCall rfl

/-! ## A step of the machine, and a run -/

/-- The instruction a busy block holds is placed. -/
theorem State.Placed.admitted_held (h : s.Placed) (hheld : s.seq.held = .ok i) : s.seq.k = 0 ∨ admitted i s = true :=
  h.imp_right fun ⟨_, j, hj, ha⟩ => by
    cases hheld.symm.trans hj
    exact ha

theorem execHeld_progress (hi : s.Inv) : ∃ t, execHeld s.seq.held s = .next t := by
  obtain ⟨hplaced, hp⟩ := hi
  match hd : s.seq.held with
  | .ok i => exact exec_progress (hplaced.admitted_held hd) hp
  | .error (.reservedOp _) | .error (.undefinedCommand _) | .error (.dataCount _ _) => exact ⟨_, rfl⟩

/-- A suspended call stops nothing (R17). -/
theorem State.runHeld_progress (hi : s.Inv) (suspended : Bool) : ∃ t, s.runHeld suspended = .next t := by
  obtain ⟨t, ht⟩ := execHeld_progress hi
  cases suspended with
  | false => exact ⟨t, ht⟩
  | true => exact ⟨_, by rw [State.runHeld, if_pos rfl, ht, State.hold]⟩

theorem step_progress (hi : s.Inv) : ∃ t, step s = .next t := by
  cases hr : s.resetLevel with
  | true => exact ⟨_, step_reset hr⟩
  | false =>
    cases hf : s.sampled.fetch with
    | none => exact ⟨s.sampled, by simp [step, hr, hf]⟩
    | some u =>
      obtain ⟨-, hu⟩ := State.fetch_inv (s := s.sampled) hi hf
      rw [step_of_fetch hr hf]
      exact State.runHeld_progress hu _

theorem coreRun_succ (M : Host.Core) {s t : M.State} (h : M.step s = .next t) (n : Nat) :
    M.run (n + 1) s = M.run n t := by
  rw [Host.Core.run, h]

/-- Settles O56, by induction on the number of steps: from the invariant a step answers a next state, which has the invariant
too (O54). -/
theorem runsNeverStop : Obligations.RunsNeverStop := by
  intro s n hi
  induction n generalizing s with
  | zero => exact ⟨s, rfl, hi⟩
  | succ n ih =>
    obtain ⟨t, ht⟩ := step_progress hi
    obtain ⟨u, hrun, hu⟩ := ih t (positionInvariantKept s t hi ht)
    exact ⟨u, (coreRun_succ core ht n).trans hrun, hu⟩

end Sys2Proof.Machine
end
